-- ==== Sys2Proof/Word.lean ====
section
/-! DEFINITION. The two word types of the machine (00_scope.md R5): the 8-bit byte, which is the datum of
the bus and of every general register, and the 16-bit word, which is an address, PC, SP or a register pair. -/

namespace Sys2Proof

/-- An 8-bit value: a bus datum or a general register (R5, R11, R70). -/
abbrev Byte := BitVec 8

/-- A 16-bit value: a bus address, PC, SP or a register pair (R5, R12, R15, R16, R70). -/
abbrev Addr := BitVec 16

end Sys2Proof
end

