-- ==== Sys2Proof/Machine/Bits.lean ====
section
/-! DEFINITION. Bit-field, sign-extension and byte-order helpers (00_scope.md R6, R7; 20_memory.md R74). -/

namespace Sys2Proof

/-- Bits 15:8 of a 16-bit value. -/
def hi8 (v : Addr) : Byte := v.extractLsb' 8 8

/-- Bits 7:0 of a 16-bit value. -/
def lo8 (v : Addr) : Byte := v.extractLsb' 0 8

/-- `hi ++ lo`: the 16-bit value with the first byte in its high half (R6, R12). -/
def join16 (hi lo : Byte) : Addr := hi ++ lo

/-- `sext_16` of R6: two's-complement extension of an 8-bit displacement. -/
def sext16 (e : Byte) : Addr := e.signExtend 16

/-- `0xFF00 | n`: the high-page address of the LDH instructions (R149, R213 to R216). -/
def highPage (n : Byte) : Addr := join16 0xFF n

/-- The 3-bit field of a byte whose lowest bit is `lo` (R142). -/
def field3 (b : Byte) (lo : Nat) : Fin 8 := (b.extractLsb' lo 3).toFin

/-- The 2-bit field of a byte whose lowest bit is `lo` (R142). -/
def field2 (b : Byte) (lo : Nat) : Fin 4 := (b.extractLsb' lo 2).toFin

/-- The low nibble `v[3:0]` as a number. -/
def nibble (v : Byte) : Nat := v.toNat % 16

/-- `bool(c)` of R6 as a number. -/
def bit01 (c : Bool) : Nat := if c then 1 else 0

end Sys2Proof
end

