-- ==== Sys2Proof/Config.lean ====
section
/-! DEFINITION. The parameters of 00_scope.md R5 that the spec leaves open, as plain data with the defaults the
spec gives. The state carries one `Params`, which no step changes, so that a claim can be stated for every value
of them. `ramInit` is the spec's default for `RAM_INIT` and `CART_RAM_INIT`. -/

namespace Sys2Proof

/-- `STOP_POLICY` of R5 and R342 (decision D23): what the opcode 0x10 does. -/
inductive StopPolicy where
  /-- The default: STOP raises `Fatal(UnimplementedOpcode)`. -/
  | fatal
  /-- STOP zeroes the divider and enters the STOPPED state. -/
  | lowPower
deriving DecidableEq, Repr

/-- `SHADE_TO_PIXEL` of R5 and R478 (decision D32): the packed 32-bit pixel shown for each of the four shades. -/
structure PixelMap where
  shade0 : BitVec 32
  shade1 : BitVec 32
  shade2 : BitVec 32
  shade3 : BitVec 32
deriving DecidableEq, Repr

/-- The parameters of the step relation that R5 leaves to the model's caller (R10, R5). DESIGN CHOICE (log 4): they stand in
the state. -/
structure Params where
  haltBug : Bool
  stopPolicy : StopPolicy
  pixels : PixelMap
deriving DecidableEq, Repr

/-- The default of `SHADE_TO_PIXEL`: opaque greys from white to black (R5). -/
def Config.defaultPixels : PixelMap := ⟨0xFFFFFFFF, 0xFFAAAAAA, 0xFF555555, 0xFF000000⟩

/-- The defaults R5 gives: no HALT bug, STOP is fatal, grey pixels. -/
def Config.defaultParams : Params := ⟨false, .fatal, Config.defaultPixels⟩

/-- What a byte of RAM that nothing has written reads as: the default of `RAM_INIT` and of `CART_RAM_INIT`
(R5, R26, R27); also the filler byte of a ROM image held sparsely. DESIGN CHOICE (log 1): unsafe, a claim from
`State.reset` can lean on it. -/
def Config.ramInit : Byte := 0x00

end Sys2Proof
end

