-- ==== Sys2Proof/Machine/Memory.lean ====
section
/-! DEFINITION. A byte memory as plain data: a list of (index, byte) cells with strictly rising indices that
lists no byte equal to what an unlisted index reads as. Each memory of 10_state.md R26 and R27 is one of these,
indexed from 0. -/

namespace Sys2Proof.Machine

/-- One memory: its cells that differ from the background, in rising order of index. -/
abbrev Memory := List Host.Cell

/-- What an unlisted index reads as: the default of `RAM_INIT` (R26). -/
def Memory.background : Byte := Config.ramInit

/-- The byte at an index. -/
def Memory.read : Memory → Nat → Byte
  | [], _ => Memory.background
  | (k, v) :: m, i => if k = i then v else Memory.read m i

/-- The cell list of one index holding `v`, in front of `m`: nothing where `v` is the background. -/
def Memory.place (i : Nat) (v : Byte) (m : Memory) : Memory :=
  if v = Memory.background then m else (i, v) :: m

/-- Store `v` at an index, keeping the canonical form. -/
def Memory.write : Memory → Nat → Byte → Memory
  | [], i, v => Memory.place i v []
  | (k, w) :: m, i, v =>
    if i < k then Memory.place i v ((k, w) :: m)
    else if i = k then Memory.place i v m
    else (k, w) :: Memory.write m i v

/-- The canonical form: indices strictly rising, and no cell equal to the background. -/
abbrev Memory.wf (m : Memory) : Prop :=
  m.Pairwise (fun p q => p.1 < q.1) ∧ ∀ p ∈ m, p.2 ≠ Memory.background

/-- Every listed index lies below `size`. -/
abbrev Memory.within (size : Nat) (m : Memory) : Prop := ∀ p ∈ m, p.1 < size

/-- The memory that holds the bytes of a list from index `i` on. -/
def Memory.ofBytesFrom : Nat → List Byte → Memory
  | _, [] => []
  | i, v :: vs => Memory.place i v (Memory.ofBytesFrom (i + 1) vs)

/-- The memory that holds the bytes of a list from index 0 on. -/
def Memory.ofBytes (bytes : List Byte) : Memory := Memory.ofBytesFrom 0 bytes

/-- Store the bytes of a list at consecutive indices from `i` on. -/
def Memory.writeAll : Memory → Nat → List Byte → Memory
  | m, _, [] => m
  | m, i, v :: vs => Memory.writeAll (m.write i v) (i + 1) vs

end Sys2Proof.Machine
end

