-- ==== Sys2Proof/Machine/State.lean ====
section
/-! DEFINITION. The architectural state of the core (10_state.md R10), as plain data, with its reset value
(70_reset_and_hazards.md R501), and the reasons a step could stop. -/

namespace Sys2Proof.Machine

/-- The four flags of F, in the order of its bits 7 to 4 (R13, R14). They are F's only storage: bits 3:0 of the
byte F read as 0, so no field holds them. -/
structure Flags where
  z : Bool
  n : Bool
  h : Bool
  c : Bool
deriving DecidableEq, Repr

/-- The CPU's register file (R11, R13, R15, R16). -/
structure Cpu where
  a : Byte
  flags : Flags
  b : Byte
  c : Byte
  d : Byte
  e : Byte
  h : Byte
  l : Byte
  sp : Addr
  pc : Addr
deriving DecidableEq, Repr

/-- `run_state` (R19). -/
inductive RunState where
  | running
  | halted
  | stopped
  | fatal
deriving DecidableEq, Repr

/-- The kinds of the one synchronous exception (R401). -/
inductive FatalKind where
  /-- Code 1: byte 0 of the instruction is one of the eleven illegal bytes (R345). -/
  | invalidOpcode
  /-- Code 2: byte 0 is 0x10 (STOP) and `STOP_POLICY` is `fatal` (R342). -/
  | unimplementedOpcode
deriving DecidableEq, Repr

/-- The fatal record `(kind, addr, op)` kept for the host (R400, R401). -/
structure FatalRecord where
  kind : FatalKind
  addr : Addr
  op : Byte
deriving DecidableEq, Repr

/-- The CPU's control state: master enable (R17), EI delay (R18, values 0 to 2), run state and pending HALT bug
(R19), and the fatal record (R400). -/
structure Control where
  ime : Bool
  eiDelay : Fin 3
  runState : RunState
  haltBugPending : Bool
  fatalRecord : Option FatalRecord
deriving DecidableEq, Repr

/-- The timer: `div_counter` (R35, R50), TIMA and TMA (R36), the three bits of TAC (R37). -/
structure Timer where
  divCounter : BitVec 16
  tima : Byte
  tma : Byte
  tac : BitVec 3
deriving DecidableEq, Repr

/-- The input latch: the two select bits of P1 (R32; bit 0 is P1 bit 4) and the button mask (R33). -/
structure Joypad where
  p1Select : BitVec 2
  buttons : BitVec 8
deriving DecidableEq, Repr

/-- The two serial registers, storage only (R34). -/
structure Serial where
  sb : Byte
  sc : Byte
deriving DecidableEq, Repr

/-- The display mode (R51), named as R41 names the values of STAT bits 1:0. -/
inductive LcdMode where
  | hblank
  | vblank
  | oamScan
  | transfer
deriving DecidableEq, Repr

/-- A frame buffer: 144 rows, top row first, of 160 shades, left column first (R51, R478). -/
abbrev Frame := List (List (BitVec 2))

/-- The display controller's registers (R40 to R48) and internal state (R51). -/
structure Lcd where
  lcdc : Byte
  statEn : BitVec 4
  scy : Byte
  scx : Byte
  ly : Byte
  lyc : Byte
  dma : Byte
  bgp : Byte
  obp0 : Byte
  obp1 : Byte
  wy : Byte
  wx : Byte
  dot : Nat
  mode : LcdMode
  windowLine : Byte
  fbWork : Frame
  fbFront : Frame
  generation : Nat
deriving DecidableEq, Repr

/-- The bank registers of the cartridge's mapping scheme (R27, R83 to R89). -/
inductive Mapper where
  | romOnly
  | mbc1 (bank1 : BitVec 5) (bank2 : BitVec 2) (mode : Bool)
  | mbc3 (romBank : BitVec 7) (ramSel : BitVec 4)
  | mbc5 (romBank : BitVec 9) (ramBank : BitVec 4)
deriving DecidableEq, Repr

/-- The cartridge (R27): the immutable image and the configuration read from its header (R80), the cartridge RAM,
the RAM-enable flag and the mapper's registers. -/
structure Cart where
  rom : Memory
  romLength : Nat
  romBanks : Nat
  ramSize : Nat
  ram : Memory
  ramEnable : Bool
  mapper : Mapper
deriving DecidableEq, Repr

/-- Everything the bus reaches (R70, R73): the interrupt registers, the devices, the internal memories of R26, the
48 sound bytes of R38, and the cartridge. -/
structure Bus where
  intFlag : BitVec 5
  intEnable : Byte
  timer : Timer
  joypad : Joypad
  serial : Serial
  lcd : Lcd
  vram : Memory
  wram : Memory
  oam : Memory
  hram : Memory
  sound : Memory
  cart : Cart
deriving DecidableEq, Repr

/-- The eight buttons, in the bit order of the `buttons` mask (R33). -/
inductive Button where
  | right
  | left
  | up
  | down
  | a
  | b
  | select
  | start
deriving DecidableEq, Repr

/-- A host event that changes architectural state (R490 (c)). -/
inductive HostEvent where
  | press (button : Button)
  | release (button : Button)
deriving DecidableEq, Repr

/-- The state of the machine: the architectural state of R10 (`cpu`, `ctl`, `bus`), and beside it what R10 names as
the arguments of the step relation: the parameters, which no step changes, and the host's input stream, whose head
holds the events that apply before the next step (R490 (c)). DESIGN CHOICE (log 4, log 5) for these two fields. -/
structure State where
  cpu : Cpu
  ctl : Control
  bus : Bus
  params : Params
  input : List (List HostEvent)
deriving DecidableEq, Repr

/-- Why a step could stop with a fault. There is no such reason: the bus never fails (R70), nothing but the opcodes
of R401 raises anything (R402), and those enter the FATAL state, which is a next state (R400). DEDUCED (log 7). -/
inductive Fault where
deriving DecidableEq, Repr

/-- Why a step could be refused. -/
inductive Refusal where
  /-- An arm of `exec` without a meaning yet; no arm of this model uses it. Safe: the model stops. -/
  | notModelled (mnemonic : String)
deriving DecidableEq, Repr

/-- What an instruction or a step answers. -/
abbrev Result := Host.Outcome State Fault Refusal

/-- A frame with every entry shade 0 (R51, R473). -/
def Frame.blank : Frame := List.replicate 144 (List.replicate 160 0)

/-- The sound block at reset (R38), indexed from 0xFF10: the nonzero bytes of its table. -/
def soundReset : Memory :=
  [(0x00, 0x80), (0x01, 0xBF), (0x02, 0xF3), (0x03, 0xFF), (0x04, 0xBF), (0x06, 0x3F), (0x08, 0xFF), (0x09, 0xBF),
   (0x0A, 0x7F), (0x0B, 0xFF), (0x0C, 0x9F), (0x0D, 0xFF), (0x0E, 0xBF)] ++
  [(0x10, 0xFF), (0x13, 0xBF), (0x14, 0x77), (0x15, 0xF3), (0x16, 0xF1)]

/-- The register file at reset (R11, R14 to R16). -/
def Cpu.reset : Cpu where
  a := 0x01
  flags := ⟨true, false, true, true⟩
  b := 0x00
  c := 0x13
  d := 0x00
  e := 0xD8
  h := 0x01
  l := 0x4D
  sp := 0xFFFE
  pc := 0x0100

/-- The control state at reset (R17 to R19, R501). -/
def Control.reset : Control := ⟨false, 0, .running, false, none⟩

/-- The display at reset (R40 to R48, R51). -/
def Lcd.reset : Lcd where
  lcdc := 0x91
  statEn := 0
  scy := 0x00
  scx := 0x00
  ly := 0x00
  lyc := 0x00
  dma := 0xFF
  bgp := 0xFC
  obp0 := 0xFF
  obp1 := 0xFF
  wy := 0x00
  wx := 0x00
  dot := 0
  mode := .oamScan
  windowLine := 0x00
  fbWork := Frame.blank
  fbFront := Frame.blank
  generation := 0

/-- The bus side of the state at reset (R30 to R38, R501) around a given cartridge and given RAM contents. -/
def Bus.reset (cart : Cart) (vram wram oam hram : Memory) : Bus where
  intFlag := 0b00001
  intEnable := 0x00
  timer := ⟨0xAB00, 0x00, 0x00, 0b000⟩
  joypad := ⟨0b00, 0x00⟩
  serial := ⟨0x00, 0x00⟩
  lcd := Lcd.reset
  vram := vram
  wram := wram
  oam := oam
  hram := hram
  sound := soundReset
  cart := cart

/-- The smallest image that loads (R81): 0x8000 bytes of 0x00, so a ROM-only cartridge of two banks without RAM.
No program: a program is placed by a load (`State.load`) or by `State.withFetchWord`. DESIGN CHOICE (log 2): unsafe. -/
def Cart.blank : Cart := ⟨[], 0x8000, 2, 0, [], false, .romOnly⟩

/-- The machine right after reset (R500, R501) with the default parameters (R5), the default `RAM_INIT` and the
blank cartridge. -/
def State.reset : State :=
  ⟨Cpu.reset, Control.reset, Bus.reset Cart.blank [] [] [] [], Config.defaultParams, []⟩

end Sys2Proof.Machine
end

