-- ==== Sys2Proof/Machine/Cartridge.lean ====
section
/-! DEFINITION. Cartridge banking: ROM lookup, the four mapping schemes and cartridge RAM (20_memory.md R82 to R90). -/

namespace Sys2Proof.Machine

/-- The fill value of absent and disabled places (R78). -/
def fillByte : Byte := 0xFF

/-- The image offset of `RomByte(bank, addr)` (R82). -/
def Cart.romOffset (c : Cart) (bank : Nat) (a : Addr) : Nat := (bank % c.romBanks) * 0x4000 + a.toNat % 0x4000

/-- `RomByte(bank, addr)` (R82): the fill value beyond the image's end. -/
def Cart.romByte (c : Cart) (bank : Nat) (a : Addr) : Byte :=
  let off := c.romOffset bank a
  if off < c.romLength then c.rom.read off else fillByte

/-- The bank number shown at 0x0000-0x3FFF (R83, R85, R87, R89). -/
def Cart.fixedBank (c : Cart) : Nat :=
  match c.mapper with
  | .mbc1 _ bank2 mode => if mode then bank2.toNat * 32 else 0
  | .romOnly | .mbc3 _ _ | .mbc5 _ _ => 0

/-- The bank number shown at 0x4000-0x7FFF (R83, R85, R87, R89). -/
def Cart.switchBank (c : Cart) : Nat :=
  match c.mapper with
  | .romOnly => 1
  | .mbc1 bank1 bank2 _ => bank2.toNat * 32 + bank1.toNat
  | .mbc3 romBank _ => romBank.toNat
  | .mbc5 romBank _ => romBank.toNat

/-- The RAM bank number the mapper selects, where cartridge RAM answers at all (R83, R85, R87, R89): not while it is
disabled, and not while MBC3 selects a clock register or an unassigned code. -/
def Cart.ramBank (c : Cart) : Option Nat :=
  match c.mapper with
  | .romOnly => some 0
  | .mbc1 _ bank2 mode => if c.ramEnable then some (if mode then bank2.toNat else 0) else none
  | .mbc3 _ ramSel => if c.ramEnable && ramSel.toNat ≤ 3 then some ramSel.toNat else none
  | .mbc5 _ ramBank => if c.ramEnable then some ramBank.toNat else none

/-- The offset in `cart_ram` that an address in 0xA000-0xBFFF reaches, where one answers (R90). -/
def Cart.ramOffset (c : Cart) (a : Addr) : Option Nat :=
  if c.ramSize = 0 then none
  else c.ramBank.map (fun k => (k * 0x2000 + (a.toNat - 0xA000)) % c.ramSize)

/-- Read of 0xA000-0xBFFF (R90). -/
def Cart.readRam (c : Cart) (a : Addr) : Byte :=
  match c.ramOffset a with
  | some off => c.ram.read off
  | none => fillByte

/-- Write of 0xA000-0xBFFF (R90). -/
def Cart.writeRam (c : Cart) (a : Addr) (v : Byte) : Cart :=
  match c.ramOffset a with
  | some off => { c with ram := c.ram.write off v }
  | none => c

/-- The zero-to-one adjustment of a bank register (R84, R86). -/
def zeroToOne {w : Nat} (b : BitVec w) : BitVec w := if b = 0 then 1 else b

/-- `ram_enable <- bool(v[3:0] = 0xA)` (R84, R86, R88). -/
def Cart.writeRamEnable (c : Cart) (v : Byte) : Cart := { c with ramEnable := nibble v == 0xA }

/-- A write to 0x0000-0x7FFF: the mapper registers (R83, R84, R86, R88). -/
def Cart.writeControl (c : Cart) (a : Addr) (v : Byte) : Cart :=
  match c.mapper with
  | .romOnly => c
  | .mbc1 bank1 bank2 mode =>
    if a.toNat < 0x2000 then c.writeRamEnable v
    else if a.toNat < 0x4000 then { c with mapper := .mbc1 (zeroToOne (v.extractLsb' 0 5)) bank2 mode }
    else if a.toNat < 0x6000 then { c with mapper := .mbc1 bank1 (v.extractLsb' 0 2) mode }
    else { c with mapper := .mbc1 bank1 bank2 (v.getLsbD 0) }
  | .mbc3 romBank ramSel =>
    if a.toNat < 0x2000 then c.writeRamEnable v
    else if a.toNat < 0x4000 then { c with mapper := .mbc3 (zeroToOne (v.extractLsb' 0 7)) ramSel }
    else if a.toNat < 0x6000 then { c with mapper := .mbc3 romBank (v.extractLsb' 0 4) }
    else c
  | .mbc5 romBank ramBank =>
    if a.toNat < 0x2000 then c.writeRamEnable v
    else if a.toNat < 0x3000 then { c with mapper := .mbc5 (romBank.extractLsb' 8 1 ++ v) ramBank }
    else if a.toNat < 0x4000 then { c with mapper := .mbc5 (v.extractLsb' 0 1 ++ romBank.extractLsb' 0 8) ramBank }
    else if a.toNat < 0x6000 then { c with mapper := .mbc5 romBank (v.extractLsb' 0 4) }
    else c

end Sys2Proof.Machine
end

