-- ==== Sys2Proof/Machine/Bus.lean ====
section
/-! DEFINITION. The memory bus (20_memory.md R70 to R78, R95 to R101, R110 to R127): the address map, the I/O register
dispatch, `MemRead(addr, 1)` and `MemWrite(addr, 1, v)`, the sprite-table copy, and switching the display on and off,
which a write to LCDC does (60_exceptions.md R473). -/

namespace Sys2Proof.Machine

/-- The regions of the address map (R73). -/
inductive Region where
  | romFixed
  | romSwitch
  | vram
  | cartRam
  | wram
  | echo
  | oam
  | unusable
  | io
  | hram
  | intEnable
deriving DecidableEq, Repr

/-- The one region that contains an address (R73). -/
def regionOf (a : Addr) : Region :=
  if a.toNat < 0x4000 then .romFixed
  else if a.toNat < 0x8000 then .romSwitch
  else if a.toNat < 0xA000 then .vram
  else if a.toNat < 0xC000 then .cartRam
  else if a.toNat < 0xE000 then .wram
  else if a.toNat < 0xFE00 then .echo
  else if a.toNat < 0xFEA0 then .oam
  else if a.toNat < 0xFF00 then .unusable
  else if a.toNat < 0xFF80 then .io
  else if a.toNat < 0xFFFF then .hram
  else .intEnable

/-- The I/O registers of 0xFF00-0xFF7F (R100). -/
inductive IoReg where
  | p1
  | sb
  | sc
  | div
  | tima
  | tma
  | tac
  | intFlag
  | sound
  | lcdc
  | stat
  | scy
  | scx
  | ly
  | lyc
  | dma
  | bgp
  | obp0
  | obp1
  | wy
  | wx
  | unmapped
deriving DecidableEq, Repr

/-- Which register an I/O address names (R100). -/
def ioRegAt (a : Addr) : IoReg :=
  match a.toNat with
  | 0xFF00 => .p1
  | 0xFF01 => .sb
  | 0xFF02 => .sc
  | 0xFF04 => .div
  | 0xFF05 => .tima
  | 0xFF06 => .tma
  | 0xFF07 => .tac
  | 0xFF0F => .intFlag
  | 0xFF40 => .lcdc
  | 0xFF41 => .stat
  | 0xFF42 => .scy
  | 0xFF43 => .scx
  | 0xFF44 => .ly
  | 0xFF45 => .lyc
  | 0xFF46 => .dma
  | 0xFF47 => .bgp
  | 0xFF48 => .obp0
  | 0xFF49 => .obp1
  | 0xFF4A => .wy
  | 0xFF4B => .wx
  | n => if 0xFF10 ≤ n ∧ n ≤ 0xFF3F then .sound else .unmapped

/-- The read of P1 (R110): `0xC0 | select | lines`, a line 0 where a button of a selected group is pressed. -/
def Joypad.read (j : Joypad) : Byte :=
  let dir := j.buttons.extractLsb' 0 4
  let act := j.buttons.extractLsb' 4 4
  let low : BitVec 4 := if j.p1Select.getLsbD 0 then 0xF else ~~~dir
  let low := if j.p1Select.getLsbD 1 then low else low &&& ~~~act
  (0b11 : BitVec 2) ++ j.p1Select ++ low

/-- The encoding of the mode in STAT bits 1:0 (R41, R51). -/
def LcdMode.bits : LcdMode → BitVec 2
  | .hblank => 0
  | .vblank => 1
  | .oamScan => 2
  | .transfer => 3

/-- The read of STAT (R41, R120): the line-compare bit is computed at the time of the read. -/
def Lcd.readStat (d : Lcd) : Byte :=
  (0b1 : BitVec 1) ++ d.statEn ++ (if d.ly = d.lyc then 0b1 else 0b0 : BitVec 1) ++ d.mode.bits

/-- The display-enable bit, LCDC[7] (R40). -/
def Lcd.enabled (d : Lcd) : Bool := d.lcdc.getLsbD 7

/-- The display is switched off (R473): line 0, dot 0, mode 0, both frame buffers blank, generation kept. -/
def Lcd.disable (d : Lcd) : Lcd :=
  { d with ly := 0, dot := 0, mode := .hblank, windowLine := 0, fbWork := Frame.blank, fbFront := Frame.blank }

/-- The display is switched on (R473): line 0, dot 0, mode 2. -/
def Lcd.enable (d : Lcd) : Lcd := { d with ly := 0, dot := 0, mode := .oamScan, windowLine := 0 }

/-- The write of LCDC (R119). -/
def Lcd.writeLcdc (d : Lcd) (v : Byte) : Lcd :=
  let t := { d with lcdc := v }
  match d.enabled, t.enabled with
  | true, false => t.disable
  | false, true => t.enable
  | _, _ => t

/-- The read of an I/O address (R100, R110 to R127). -/
def Bus.readIo (b : Bus) (a : Addr) : Byte :=
  match ioRegAt a with
  | .p1 => b.joypad.read
  | .sb => b.serial.sb
  | .sc => 0x7E ||| (b.serial.sc &&& 0x81)
  | .div => hi8 b.timer.divCounter
  | .tima => b.timer.tima
  | .tma => b.timer.tma
  | .tac => (0b11111 : BitVec 5) ++ b.timer.tac
  | .intFlag => (0b111 : BitVec 3) ++ b.intFlag
  | .sound => b.sound.read (a.toNat - 0xFF10)
  | .lcdc => b.lcd.lcdc
  | .stat => b.lcd.readStat
  | .scy => b.lcd.scy
  | .scx => b.lcd.scx
  | .ly => b.lcd.ly
  | .lyc => b.lcd.lyc
  | .dma => b.lcd.dma
  | .bgp => b.lcd.bgp
  | .obp0 => b.lcd.obp0
  | .obp1 => b.lcd.obp1
  | .wy => b.lcd.wy
  | .wx => b.lcd.wx
  | .unmapped => fillByte

/-- `MemRead(addr, 1)` (R71, R73): the value the address's region gives. It returns no state: a read has no effect. -/
def Bus.read (b : Bus) (a : Addr) : Byte :=
  match regionOf a with
  | .romFixed => b.cart.romByte b.cart.fixedBank a
  | .romSwitch => b.cart.romByte b.cart.switchBank a
  | .vram => b.vram.read (a.toNat - 0x8000)
  | .cartRam => b.cart.readRam a
  | .wram => b.wram.read (a.toNat - 0xC000)
  | .echo => b.wram.read (a.toNat - 0xE000)
  | .oam => b.oam.read (a.toNat - 0xFE00)
  | .unusable => fillByte
  | .io => b.readIo a
  | .hram => b.hram.read (a.toNat - 0xFF80)
  | .intEnable => b.intEnable

/-- The 160 bytes that a DMA write of `v` copies, read through the bus from `v * 256` on (R124). -/
def Bus.dmaSource (b : Bus) (v : Byte) : List Byte :=
  (List.range 160).map (fun i => b.read (join16 v 0 + BitVec.ofNat 16 i))

/-- The write of DMA (R124): store `v`, then copy 160 bytes into OAM. All bytes are read before the first is
written, which equals the spec's loop: the only source that overlaps OAM is OAM itself, byte for byte:
DEDUCED (log 11). -/
def Bus.writeDma (b : Bus) (v : Byte) : Bus :=
  let t := { b with lcd := { b.lcd with dma := v } }
  { t with oam := t.oam.writeAll 0 (t.dmaSource v) }

/-- The write of an I/O address (R101, R110 to R127). -/
def Bus.writeIo (b : Bus) (a : Addr) (v : Byte) : Bus :=
  match ioRegAt a with
  | .p1 => { b with joypad := { b.joypad with p1Select := v.extractLsb' 4 2 } }
  | .sb => { b with serial := { b.serial with sb := v } }
  | .sc => { b with serial := { b.serial with sc := v &&& 0x81 } }
  | .div => { b with timer := { b.timer with divCounter := 0 } }
  | .tima => { b with timer := { b.timer with tima := v } }
  | .tma => { b with timer := { b.timer with tma := v } }
  | .tac => { b with timer := { b.timer with tac := v.extractLsb' 0 3 } }
  | .intFlag => { b with intFlag := v.extractLsb' 0 5 }
  | .sound => { b with sound := b.sound.write (a.toNat - 0xFF10) v }
  | .lcdc => { b with lcd := b.lcd.writeLcdc v }
  | .stat => { b with lcd := { b.lcd with statEn := v.extractLsb' 3 4 } }
  | .scy => { b with lcd := { b.lcd with scy := v } }
  | .scx => { b with lcd := { b.lcd with scx := v } }
  | .ly => b
  | .lyc => { b with lcd := { b.lcd with lyc := v } }
  | .dma => b.writeDma v
  | .bgp => { b with lcd := { b.lcd with bgp := v } }
  | .obp0 => { b with lcd := { b.lcd with obp0 := v } }
  | .obp1 => { b with lcd := { b.lcd with obp1 := v } }
  | .wy => { b with lcd := { b.lcd with wy := v } }
  | .wx => { b with lcd := { b.lcd with wx := v } }
  | .unmapped => b

/-- `MemWrite(addr, 1, v)` (R72, R73): the write rule of the address's region. -/
def Bus.write (b : Bus) (a : Addr) (v : Byte) : Bus :=
  match regionOf a with
  | .romFixed => { b with cart := b.cart.writeControl a v }
  | .romSwitch => { b with cart := b.cart.writeControl a v }
  | .vram => { b with vram := b.vram.write (a.toNat - 0x8000) v }
  | .cartRam => { b with cart := b.cart.writeRam a v }
  | .wram => { b with wram := b.wram.write (a.toNat - 0xC000) v }
  | .echo => { b with wram := b.wram.write (a.toNat - 0xE000) v }
  | .oam => { b with oam := b.oam.write (a.toNat - 0xFE00) v }
  | .unusable => b
  | .io => b.writeIo a v
  | .hram => { b with hram := b.hram.write (a.toNat - 0xFF80) v }
  | .intEnable => { b with intEnable := v }

/-- The interrupts both requested and enabled, `IE & IF & 0x1F` (R411). -/
def Bus.pending (b : Bus) : BitVec 5 := b.intEnable.extractLsb' 0 5 &&& b.intFlag

/-- Interrupt request `k` is raised: IF[k] becomes 1 (R410, R411). -/
def Bus.request (b : Bus) (k : Nat) : Bus := { b with intFlag := b.intFlag ||| BitVec.twoPow 5 k }

end Sys2Proof.Machine
end

