-- ==== Sys2Proof/Syntax.lean ====
section
/-! DEFINITION. The instructions: the operand codes of 30_encoding.md R143 to R148 as finite sets of names, and one
constructor of `Instr` for each row of the opcode table (R150, R151). Immediates are the
instruction's bytes as R149 reads them: `n` and `e` one byte, `nn` a 16-bit value. -/

namespace Sys2Proof

/-- The registers an 8-bit operand code names (R143). -/
inductive Reg8 where
  | b
  | c
  | d
  | e
  | h
  | l
  | a
deriving DecidableEq, Repr

/-- An 8-bit operand: a register, or the memory byte at the address in HL (R143, code 6). -/
inductive Operand8 where
  | reg (r : Reg8)
  | memHl
deriving DecidableEq, Repr

/-- The register-pair code `R16` (R144). -/
inductive Reg16 where
  | bc
  | de
  | hl
  | sp
deriving DecidableEq, Repr

/-- The register-pair code `R16S` of PUSH and POP (R145). -/
inductive StackReg where
  | bc
  | de
  | hl
  | af
deriving DecidableEq, Repr

/-- The pair that addresses memory in LD A,(rr) and LD (rr),A (R205 to R208). -/
inductive Pointer where
  | bc
  | de
deriving DecidableEq, Repr

/-- The two ways HL moves after an access (R211, R212, R217, R218). -/
inductive HlStep where
  | inc
  | dec
deriving DecidableEq, Repr

/-- The condition code (R146). -/
inductive Cond where
  | nz
  | z
  | nc
  | c
deriving DecidableEq, Repr

/-- The ALU operation code `aaa` (R147). -/
inductive AluOp where
  | add
  | adc
  | sub
  | sbc
  | and
  | xor
  | or
  | cp
deriving DecidableEq, Repr

/-- The rotate or shift operation code (R148). -/
inductive ShiftOp where
  | rlc
  | rrc
  | rl
  | rr
  | sla
  | sra
  | swap
  | srl
deriving DecidableEq, Repr

/-- The eleven illegal values of byte 0 (R152). -/
inductive IllegalByte where
  | d3
  | db
  | dd
  | e3
  | e4
  | eb
  | ec
  | ed
  | f4
  | fc
  | fd
deriving DecidableEq, Repr

/-- An instruction: one constructor for each row of the opcode table, in the table's order within each of three groups
(Lean's compiler wants the constructors that carry data among the first 244). -/
inductive Instr where
  -- The first table (R150): the rows with an immediate.
  /-- 0x01 `LD BC,nn` (R230) -/
  | ldBcNn (nn : Addr)
  /-- 0x06 `LD B,n` (R201) -/
  | ldBN (n : Byte)
  /-- 0x08 `LD (nn),SP` (R231) -/
  | ldMemNnSp (nn : Addr)
  /-- 0x0E `LD C,n` (R201) -/
  | ldCN (n : Byte)
  /-- 0x10 `STOP` (R342) -/
  | stop (n : Byte)
  /-- 0x11 `LD DE,nn` (R230) -/
  | ldDeNn (nn : Addr)
  /-- 0x16 `LD D,n` (R201) -/
  | ldDN (n : Byte)
  /-- 0x18 `JR e` (R324) -/
  | jrE (e : Byte)
  /-- 0x1E `LD E,n` (R201) -/
  | ldEN (n : Byte)
  /-- 0x20 `JR NZ,e` (R325) -/
  | jrNzE (e : Byte)
  /-- 0x21 `LD HL,nn` (R230) -/
  | ldHlNn (nn : Addr)
  /-- 0x26 `LD H,n` (R201) -/
  | ldHN (n : Byte)
  /-- 0x28 `JR Z,e` (R325) -/
  | jrZE (e : Byte)
  /-- 0x2E `LD L,n` (R201) -/
  | ldLN (n : Byte)
  /-- 0x30 `JR NC,e` (R325) -/
  | jrNcE (e : Byte)
  /-- 0x31 `LD SP,nn` (R230) -/
  | ldSpNn (nn : Addr)
  /-- 0x36 `LD (HL),n` (R204) -/
  | ldMemHlN (n : Byte)
  /-- 0x38 `JR C,e` (R325) -/
  | jrCE (e : Byte)
  /-- 0x3E `LD A,n` (R201) -/
  | ldAN (n : Byte)
  /-- 0xC2 `JP NZ,nn` (R322) -/
  | jpNzNn (nn : Addr)
  /-- 0xC3 `JP nn` (R321) -/
  | jpNn (nn : Addr)
  /-- 0xC4 `CALL NZ,nn` (R327) -/
  | callNzNn (nn : Addr)
  /-- 0xC6 `ADD A,n` (R253) -/
  | addAN (n : Byte)
  /-- 0xCA `JP Z,nn` (R322) -/
  | jpZNn (nn : Addr)
  /-- 0xCC `CALL Z,nn` (R327) -/
  | callZNn (nn : Addr)
  /-- 0xCD `CALL nn` (R326) -/
  | callNn (nn : Addr)
  /-- 0xCE `ADC A,n` (R256) -/
  | adcAN (n : Byte)
  /-- 0xD2 `JP NC,nn` (R322) -/
  | jpNcNn (nn : Addr)
  /-- 0xD4 `CALL NC,nn` (R327) -/
  | callNcNn (nn : Addr)
  /-- 0xD6 `SUB n` (R259) -/
  | subN (n : Byte)
  /-- 0xDA `JP C,nn` (R322) -/
  | jpCNn (nn : Addr)
  /-- 0xDC `CALL C,nn` (R327) -/
  | callCNn (nn : Addr)
  /-- 0xDE `SBC A,n` (R262) -/
  | sbcAN (n : Byte)
  /-- 0xE0 `LDH (n),A` (R216) -/
  | ldhMemNA (n : Byte)
  /-- 0xE6 `AND n` (R265) -/
  | andN (n : Byte)
  /-- 0xE8 `ADD SP,e` (R283) -/
  | addSpE (e : Byte)
  /-- 0xEA `LD (nn),A` (R210) -/
  | ldMemNnA (nn : Addr)
  /-- 0xEE `XOR n` (R268) -/
  | xorN (n : Byte)
  /-- 0xF0 `LDH A,(n)` (R215) -/
  | ldhAMemN (n : Byte)
  /-- 0xF6 `OR n` (R271) -/
  | orN (n : Byte)
  /-- 0xF8 `LD HL,SP+e` (R233) -/
  | ldHlSpE (e : Byte)
  /-- 0xFA `LD A,(nn)` (R209) -/
  | ldAMemNn (nn : Addr)
  /-- 0xFE `CP n` (R274) -/
  | cpAN (n : Byte)
  -- The first table (R150): the rows without an immediate.
  /-- 0x00 `NOP` (R340) -/
  | nop
  /-- 0x02 `LD (BC),A` (R207) -/
  | ldMemBcA
  /-- 0x03 `INC BC` (R281) -/
  | incBc
  /-- 0x04 `INC B` (R275) -/
  | incB
  /-- 0x05 `DEC B` (R277) -/
  | decB
  /-- 0x07 `RLCA` (R290) -/
  | rlca
  /-- 0x09 `ADD HL,BC` (R280) -/
  | addHlBc
  /-- 0x0A `LD A,(BC)` (R205) -/
  | ldAMemBc
  /-- 0x0B `DEC BC` (R282) -/
  | decBc
  /-- 0x0C `INC C` (R275) -/
  | incC
  /-- 0x0D `DEC C` (R277) -/
  | decC
  /-- 0x0F `RRCA` (R291) -/
  | rrca
  /-- 0x12 `LD (DE),A` (R208) -/
  | ldMemDeA
  /-- 0x13 `INC DE` (R281) -/
  | incDe
  /-- 0x14 `INC D` (R275) -/
  | incD
  /-- 0x15 `DEC D` (R277) -/
  | decD
  /-- 0x17 `RLA` (R292) -/
  | rla
  /-- 0x19 `ADD HL,DE` (R280) -/
  | addHlDe
  /-- 0x1A `LD A,(DE)` (R206) -/
  | ldAMemDe
  /-- 0x1B `DEC DE` (R282) -/
  | decDe
  /-- 0x1C `INC E` (R275) -/
  | incE
  /-- 0x1D `DEC E` (R277) -/
  | decE
  /-- 0x1F `RRA` (R293) -/
  | rra
  /-- 0x22 `LD (HL+),A` (R217) -/
  | ldMemHlIncA
  /-- 0x23 `INC HL` (R281) -/
  | incHl
  /-- 0x24 `INC H` (R275) -/
  | incH
  /-- 0x25 `DEC H` (R277) -/
  | decH
  /-- 0x27 `DAA` (R294) -/
  | daa
  /-- 0x29 `ADD HL,HL` (R280) -/
  | addHlHl
  /-- 0x2A `LD A,(HL+)` (R211) -/
  | ldAMemHlInc
  /-- 0x2B `DEC HL` (R282) -/
  | decHl
  /-- 0x2C `INC L` (R275) -/
  | incL
  /-- 0x2D `DEC L` (R277) -/
  | decL
  /-- 0x2F `CPL` (R295) -/
  | cpl
  /-- 0x32 `LD (HL-),A` (R218) -/
  | ldMemHlDecA
  /-- 0x33 `INC SP` (R281) -/
  | incSp
  /-- 0x34 `INC (HL)` (R276) -/
  | incMemHl
  /-- 0x35 `DEC (HL)` (R278) -/
  | decMemHl
  /-- 0x37 `SCF` (R296) -/
  | scf
  /-- 0x39 `ADD HL,SP` (R280) -/
  | addHlSp
  /-- 0x3A `LD A,(HL-)` (R212) -/
  | ldAMemHlDec
  /-- 0x3B `DEC SP` (R282) -/
  | decSp
  /-- 0x3C `INC A` (R275) -/
  | incA
  /-- 0x3D `DEC A` (R277) -/
  | decA
  /-- 0x3F `CCF` (R297) -/
  | ccf
  /-- 0x40 `LD B,B` (R200) -/
  | ldBB
  /-- 0x41 `LD B,C` (R200) -/
  | ldBC
  /-- 0x42 `LD B,D` (R200) -/
  | ldBD
  /-- 0x43 `LD B,E` (R200) -/
  | ldBE
  /-- 0x44 `LD B,H` (R200) -/
  | ldBH
  /-- 0x45 `LD B,L` (R200) -/
  | ldBL
  /-- 0x46 `LD B,(HL)` (R202) -/
  | ldBMemHl
  /-- 0x47 `LD B,A` (R200) -/
  | ldBA
  /-- 0x48 `LD C,B` (R200) -/
  | ldCB
  /-- 0x49 `LD C,C` (R200) -/
  | ldCC
  /-- 0x4A `LD C,D` (R200) -/
  | ldCD
  /-- 0x4B `LD C,E` (R200) -/
  | ldCE
  /-- 0x4C `LD C,H` (R200) -/
  | ldCH
  /-- 0x4D `LD C,L` (R200) -/
  | ldCL
  /-- 0x4E `LD C,(HL)` (R202) -/
  | ldCMemHl
  /-- 0x4F `LD C,A` (R200) -/
  | ldCA
  /-- 0x50 `LD D,B` (R200) -/
  | ldDB
  /-- 0x51 `LD D,C` (R200) -/
  | ldDC
  /-- 0x52 `LD D,D` (R200) -/
  | ldDD
  /-- 0x53 `LD D,E` (R200) -/
  | ldDE
  /-- 0x54 `LD D,H` (R200) -/
  | ldDH
  /-- 0x55 `LD D,L` (R200) -/
  | ldDL
  /-- 0x56 `LD D,(HL)` (R202) -/
  | ldDMemHl
  /-- 0x57 `LD D,A` (R200) -/
  | ldDA
  /-- 0x58 `LD E,B` (R200) -/
  | ldEB
  /-- 0x59 `LD E,C` (R200) -/
  | ldEC
  /-- 0x5A `LD E,D` (R200) -/
  | ldED
  /-- 0x5B `LD E,E` (R200) -/
  | ldEE
  /-- 0x5C `LD E,H` (R200) -/
  | ldEH
  /-- 0x5D `LD E,L` (R200) -/
  | ldEL
  /-- 0x5E `LD E,(HL)` (R202) -/
  | ldEMemHl
  /-- 0x5F `LD E,A` (R200) -/
  | ldEA
  /-- 0x60 `LD H,B` (R200) -/
  | ldHB
  /-- 0x61 `LD H,C` (R200) -/
  | ldHC
  /-- 0x62 `LD H,D` (R200) -/
  | ldHD
  /-- 0x63 `LD H,E` (R200) -/
  | ldHE
  /-- 0x64 `LD H,H` (R200) -/
  | ldHH
  /-- 0x65 `LD H,L` (R200) -/
  | ldHL
  /-- 0x66 `LD H,(HL)` (R202) -/
  | ldHMemHl
  /-- 0x67 `LD H,A` (R200) -/
  | ldHA
  /-- 0x68 `LD L,B` (R200) -/
  | ldLB
  /-- 0x69 `LD L,C` (R200) -/
  | ldLC
  /-- 0x6A `LD L,D` (R200) -/
  | ldLD
  /-- 0x6B `LD L,E` (R200) -/
  | ldLE
  /-- 0x6C `LD L,H` (R200) -/
  | ldLH
  /-- 0x6D `LD L,L` (R200) -/
  | ldLL
  /-- 0x6E `LD L,(HL)` (R202) -/
  | ldLMemHl
  /-- 0x6F `LD L,A` (R200) -/
  | ldLA
  /-- 0x70 `LD (HL),B` (R203) -/
  | ldMemHlB
  /-- 0x71 `LD (HL),C` (R203) -/
  | ldMemHlC
  /-- 0x72 `LD (HL),D` (R203) -/
  | ldMemHlD
  /-- 0x73 `LD (HL),E` (R203) -/
  | ldMemHlE
  /-- 0x74 `LD (HL),H` (R203) -/
  | ldMemHlH
  /-- 0x75 `LD (HL),L` (R203) -/
  | ldMemHlL
  /-- 0x76 `HALT` (R341) -/
  | halt
  /-- 0x77 `LD (HL),A` (R203) -/
  | ldMemHlA
  /-- 0x78 `LD A,B` (R200) -/
  | ldAB
  /-- 0x79 `LD A,C` (R200) -/
  | ldAC
  /-- 0x7A `LD A,D` (R200) -/
  | ldAD
  /-- 0x7B `LD A,E` (R200) -/
  | ldAE
  /-- 0x7C `LD A,H` (R200) -/
  | ldAH
  /-- 0x7D `LD A,L` (R200) -/
  | ldAL
  /-- 0x7E `LD A,(HL)` (R202) -/
  | ldAMemHl
  /-- 0x7F `LD A,A` (R200) -/
  | ldAA
  /-- 0x80 `ADD A,B` (R251) -/
  | addAB
  /-- 0x81 `ADD A,C` (R251) -/
  | addAC
  /-- 0x82 `ADD A,D` (R251) -/
  | addAD
  /-- 0x83 `ADD A,E` (R251) -/
  | addAE
  /-- 0x84 `ADD A,H` (R251) -/
  | addAH
  /-- 0x85 `ADD A,L` (R251) -/
  | addAL
  /-- 0x86 `ADD A,(HL)` (R252) -/
  | addAMemHl
  /-- 0x87 `ADD A,A` (R251) -/
  | addAA
  /-- 0x88 `ADC A,B` (R254) -/
  | adcAB
  /-- 0x89 `ADC A,C` (R254) -/
  | adcAC
  /-- 0x8A `ADC A,D` (R254) -/
  | adcAD
  /-- 0x8B `ADC A,E` (R254) -/
  | adcAE
  /-- 0x8C `ADC A,H` (R254) -/
  | adcAH
  /-- 0x8D `ADC A,L` (R254) -/
  | adcAL
  /-- 0x8E `ADC A,(HL)` (R255) -/
  | adcAMemHl
  /-- 0x8F `ADC A,A` (R254) -/
  | adcAA
  /-- 0x90 `SUB B` (R257) -/
  | subB
  /-- 0x91 `SUB C` (R257) -/
  | subC
  /-- 0x92 `SUB D` (R257) -/
  | subD
  /-- 0x93 `SUB E` (R257) -/
  | subE
  /-- 0x94 `SUB H` (R257) -/
  | subH
  /-- 0x95 `SUB L` (R257) -/
  | subL
  /-- 0x96 `SUB (HL)` (R258) -/
  | subMemHl
  /-- 0x97 `SUB A` (R257) -/
  | subA
  /-- 0x98 `SBC A,B` (R260) -/
  | sbcAB
  /-- 0x99 `SBC A,C` (R260) -/
  | sbcAC
  /-- 0x9A `SBC A,D` (R260) -/
  | sbcAD
  /-- 0x9B `SBC A,E` (R260) -/
  | sbcAE
  /-- 0x9C `SBC A,H` (R260) -/
  | sbcAH
  /-- 0x9D `SBC A,L` (R260) -/
  | sbcAL
  /-- 0x9E `SBC A,(HL)` (R261) -/
  | sbcAMemHl
  /-- 0x9F `SBC A,A` (R260) -/
  | sbcAA
  /-- 0xA0 `AND B` (R263) -/
  | andB
  /-- 0xA1 `AND C` (R263) -/
  | andC
  /-- 0xA2 `AND D` (R263) -/
  | andD
  /-- 0xA3 `AND E` (R263) -/
  | andE
  /-- 0xA4 `AND H` (R263) -/
  | andH
  /-- 0xA5 `AND L` (R263) -/
  | andL
  /-- 0xA6 `AND (HL)` (R264) -/
  | andMemHl
  /-- 0xA7 `AND A` (R263) -/
  | andA
  /-- 0xA8 `XOR B` (R266) -/
  | xorB
  /-- 0xA9 `XOR C` (R266) -/
  | xorC
  /-- 0xAA `XOR D` (R266) -/
  | xorD
  /-- 0xAB `XOR E` (R266) -/
  | xorE
  /-- 0xAC `XOR H` (R266) -/
  | xorH
  /-- 0xAD `XOR L` (R266) -/
  | xorL
  /-- 0xAE `XOR (HL)` (R267) -/
  | xorMemHl
  /-- 0xAF `XOR A` (R266) -/
  | xorA
  /-- 0xB0 `OR B` (R269) -/
  | orB
  /-- 0xB1 `OR C` (R269) -/
  | orC
  /-- 0xB2 `OR D` (R269) -/
  | orD
  /-- 0xB3 `OR E` (R269) -/
  | orE
  /-- 0xB4 `OR H` (R269) -/
  | orH
  /-- 0xB5 `OR L` (R269) -/
  | orL
  /-- 0xB6 `OR (HL)` (R270) -/
  | orMemHl
  /-- 0xB7 `OR A` (R269) -/
  | orA
  /-- 0xB8 `CP B` (R272) -/
  | cpAB
  /-- 0xB9 `CP C` (R272) -/
  | cpAC
  /-- 0xBA `CP D` (R272) -/
  | cpAD
  /-- 0xBB `CP E` (R272) -/
  | cpAE
  /-- 0xBC `CP H` (R272) -/
  | cpAH
  /-- 0xBD `CP L` (R272) -/
  | cpAL
  /-- 0xBE `CP (HL)` (R273) -/
  | cpAMemHl
  /-- 0xBF `CP A` (R272) -/
  | cpAA
  /-- 0xC0 `RET NZ` (R329) -/
  | retNz
  /-- 0xC1 `POP BC` (R237) -/
  | popBc
  /-- 0xC5 `PUSH BC` (R236) -/
  | pushBc
  /-- 0xC7 `RST 0x00` (R333) -/
  | rst00
  /-- 0xC8 `RET Z` (R329) -/
  | retZ
  /-- 0xC9 `RET` (R328) -/
  | ret
  /-- 0xCB `PREFIX CB` (R300) -/
  | prefixCb
  /-- 0xCF `RST 0x08` (R333) -/
  | rst08
  /-- 0xD0 `RET NC` (R329) -/
  | retNc
  /-- 0xD1 `POP DE` (R237) -/
  | popDe
  /-- 0xD3 `ILLEGAL_D3` (R345) -/
  | illegalD3
  /-- 0xD5 `PUSH DE` (R236) -/
  | pushDe
  /-- 0xD7 `RST 0x10` (R333) -/
  | rst10
  /-- 0xD8 `RET C` (R329) -/
  | retC
  /-- 0xD9 `RETI` (R330) -/
  | reti
  /-- 0xDB `ILLEGAL_DB` (R345) -/
  | illegalDB
  /-- 0xDD `ILLEGAL_DD` (R345) -/
  | illegalDD
  /-- 0xDF `RST 0x18` (R333) -/
  | rst18
  /-- 0xE1 `POP HL` (R237) -/
  | popHl
  /-- 0xE2 `LDH (C),A` (R214) -/
  | ldhMemCA
  /-- 0xE3 `ILLEGAL_E3` (R345) -/
  | illegalE3
  /-- 0xE4 `ILLEGAL_E4` (R345) -/
  | illegalE4
  /-- 0xE5 `PUSH HL` (R236) -/
  | pushHl
  /-- 0xE7 `RST 0x20` (R333) -/
  | rst20
  /-- 0xE9 `JP HL` (R323) -/
  | jpHl
  /-- 0xEB `ILLEGAL_EB` (R345) -/
  | illegalEB
  /-- 0xEC `ILLEGAL_EC` (R345) -/
  | illegalEC
  /-- 0xED `ILLEGAL_ED` (R345) -/
  | illegalED
  /-- 0xEF `RST 0x28` (R333) -/
  | rst28
  /-- 0xF1 `POP AF` (R237) -/
  | popAf
  /-- 0xF2 `LDH A,(C)` (R213) -/
  | ldhAMemC
  /-- 0xF3 `DI` (R343) -/
  | di
  /-- 0xF4 `ILLEGAL_F4` (R345) -/
  | illegalF4
  /-- 0xF5 `PUSH AF` (R236) -/
  | pushAf
  /-- 0xF7 `RST 0x30` (R333) -/
  | rst30
  /-- 0xF9 `LD SP,HL` (R232) -/
  | ldSpHl
  /-- 0xFB `EI` (R344) -/
  | ei
  /-- 0xFC `ILLEGAL_FC` (R345) -/
  | illegalFC
  /-- 0xFD `ILLEGAL_FD` (R345) -/
  | illegalFD
  /-- 0xFF `RST 0x38` (R333) -/
  | rst38
  -- The second table, in the order of the byte after 0xCB (R151).
  /-- 0xCB 00 `RLC B` (R301) -/
  | cbRlcB
  /-- 0xCB 01 `RLC C` (R301) -/
  | cbRlcC
  /-- 0xCB 02 `RLC D` (R301) -/
  | cbRlcD
  /-- 0xCB 03 `RLC E` (R301) -/
  | cbRlcE
  /-- 0xCB 04 `RLC H` (R301) -/
  | cbRlcH
  /-- 0xCB 05 `RLC L` (R301) -/
  | cbRlcL
  /-- 0xCB 06 `RLC (HL)` (R301) -/
  | cbRlcMemHl
  /-- 0xCB 07 `RLC A` (R301) -/
  | cbRlcA
  /-- 0xCB 08 `RRC B` (R302) -/
  | cbRrcB
  /-- 0xCB 09 `RRC C` (R302) -/
  | cbRrcC
  /-- 0xCB 0A `RRC D` (R302) -/
  | cbRrcD
  /-- 0xCB 0B `RRC E` (R302) -/
  | cbRrcE
  /-- 0xCB 0C `RRC H` (R302) -/
  | cbRrcH
  /-- 0xCB 0D `RRC L` (R302) -/
  | cbRrcL
  /-- 0xCB 0E `RRC (HL)` (R302) -/
  | cbRrcMemHl
  /-- 0xCB 0F `RRC A` (R302) -/
  | cbRrcA
  /-- 0xCB 10 `RL B` (R303) -/
  | cbRlB
  /-- 0xCB 11 `RL C` (R303) -/
  | cbRlC
  /-- 0xCB 12 `RL D` (R303) -/
  | cbRlD
  /-- 0xCB 13 `RL E` (R303) -/
  | cbRlE
  /-- 0xCB 14 `RL H` (R303) -/
  | cbRlH
  /-- 0xCB 15 `RL L` (R303) -/
  | cbRlL
  /-- 0xCB 16 `RL (HL)` (R303) -/
  | cbRlMemHl
  /-- 0xCB 17 `RL A` (R303) -/
  | cbRlA
  /-- 0xCB 18 `RR B` (R304) -/
  | cbRrB
  /-- 0xCB 19 `RR C` (R304) -/
  | cbRrC
  /-- 0xCB 1A `RR D` (R304) -/
  | cbRrD
  /-- 0xCB 1B `RR E` (R304) -/
  | cbRrE
  /-- 0xCB 1C `RR H` (R304) -/
  | cbRrH
  /-- 0xCB 1D `RR L` (R304) -/
  | cbRrL
  /-- 0xCB 1E `RR (HL)` (R304) -/
  | cbRrMemHl
  /-- 0xCB 1F `RR A` (R304) -/
  | cbRrA
  /-- 0xCB 20 `SLA B` (R305) -/
  | cbSlaB
  /-- 0xCB 21 `SLA C` (R305) -/
  | cbSlaC
  /-- 0xCB 22 `SLA D` (R305) -/
  | cbSlaD
  /-- 0xCB 23 `SLA E` (R305) -/
  | cbSlaE
  /-- 0xCB 24 `SLA H` (R305) -/
  | cbSlaH
  /-- 0xCB 25 `SLA L` (R305) -/
  | cbSlaL
  /-- 0xCB 26 `SLA (HL)` (R305) -/
  | cbSlaMemHl
  /-- 0xCB 27 `SLA A` (R305) -/
  | cbSlaA
  /-- 0xCB 28 `SRA B` (R306) -/
  | cbSraB
  /-- 0xCB 29 `SRA C` (R306) -/
  | cbSraC
  /-- 0xCB 2A `SRA D` (R306) -/
  | cbSraD
  /-- 0xCB 2B `SRA E` (R306) -/
  | cbSraE
  /-- 0xCB 2C `SRA H` (R306) -/
  | cbSraH
  /-- 0xCB 2D `SRA L` (R306) -/
  | cbSraL
  /-- 0xCB 2E `SRA (HL)` (R306) -/
  | cbSraMemHl
  /-- 0xCB 2F `SRA A` (R306) -/
  | cbSraA
  /-- 0xCB 30 `SWAP B` (R307) -/
  | cbSwapB
  /-- 0xCB 31 `SWAP C` (R307) -/
  | cbSwapC
  /-- 0xCB 32 `SWAP D` (R307) -/
  | cbSwapD
  /-- 0xCB 33 `SWAP E` (R307) -/
  | cbSwapE
  /-- 0xCB 34 `SWAP H` (R307) -/
  | cbSwapH
  /-- 0xCB 35 `SWAP L` (R307) -/
  | cbSwapL
  /-- 0xCB 36 `SWAP (HL)` (R307) -/
  | cbSwapMemHl
  /-- 0xCB 37 `SWAP A` (R307) -/
  | cbSwapA
  /-- 0xCB 38 `SRL B` (R308) -/
  | cbSrlB
  /-- 0xCB 39 `SRL C` (R308) -/
  | cbSrlC
  /-- 0xCB 3A `SRL D` (R308) -/
  | cbSrlD
  /-- 0xCB 3B `SRL E` (R308) -/
  | cbSrlE
  /-- 0xCB 3C `SRL H` (R308) -/
  | cbSrlH
  /-- 0xCB 3D `SRL L` (R308) -/
  | cbSrlL
  /-- 0xCB 3E `SRL (HL)` (R308) -/
  | cbSrlMemHl
  /-- 0xCB 3F `SRL A` (R308) -/
  | cbSrlA
  /-- 0xCB 40 `BIT 0,B` (R309) -/
  | cbBit0B
  /-- 0xCB 41 `BIT 0,C` (R309) -/
  | cbBit0C
  /-- 0xCB 42 `BIT 0,D` (R309) -/
  | cbBit0D
  /-- 0xCB 43 `BIT 0,E` (R309) -/
  | cbBit0E
  /-- 0xCB 44 `BIT 0,H` (R309) -/
  | cbBit0H
  /-- 0xCB 45 `BIT 0,L` (R309) -/
  | cbBit0L
  /-- 0xCB 46 `BIT 0,(HL)` (R309) -/
  | cbBit0MemHl
  /-- 0xCB 47 `BIT 0,A` (R309) -/
  | cbBit0A
  /-- 0xCB 48 `BIT 1,B` (R309) -/
  | cbBit1B
  /-- 0xCB 49 `BIT 1,C` (R309) -/
  | cbBit1C
  /-- 0xCB 4A `BIT 1,D` (R309) -/
  | cbBit1D
  /-- 0xCB 4B `BIT 1,E` (R309) -/
  | cbBit1E
  /-- 0xCB 4C `BIT 1,H` (R309) -/
  | cbBit1H
  /-- 0xCB 4D `BIT 1,L` (R309) -/
  | cbBit1L
  /-- 0xCB 4E `BIT 1,(HL)` (R309) -/
  | cbBit1MemHl
  /-- 0xCB 4F `BIT 1,A` (R309) -/
  | cbBit1A
  /-- 0xCB 50 `BIT 2,B` (R309) -/
  | cbBit2B
  /-- 0xCB 51 `BIT 2,C` (R309) -/
  | cbBit2C
  /-- 0xCB 52 `BIT 2,D` (R309) -/
  | cbBit2D
  /-- 0xCB 53 `BIT 2,E` (R309) -/
  | cbBit2E
  /-- 0xCB 54 `BIT 2,H` (R309) -/
  | cbBit2H
  /-- 0xCB 55 `BIT 2,L` (R309) -/
  | cbBit2L
  /-- 0xCB 56 `BIT 2,(HL)` (R309) -/
  | cbBit2MemHl
  /-- 0xCB 57 `BIT 2,A` (R309) -/
  | cbBit2A
  /-- 0xCB 58 `BIT 3,B` (R309) -/
  | cbBit3B
  /-- 0xCB 59 `BIT 3,C` (R309) -/
  | cbBit3C
  /-- 0xCB 5A `BIT 3,D` (R309) -/
  | cbBit3D
  /-- 0xCB 5B `BIT 3,E` (R309) -/
  | cbBit3E
  /-- 0xCB 5C `BIT 3,H` (R309) -/
  | cbBit3H
  /-- 0xCB 5D `BIT 3,L` (R309) -/
  | cbBit3L
  /-- 0xCB 5E `BIT 3,(HL)` (R309) -/
  | cbBit3MemHl
  /-- 0xCB 5F `BIT 3,A` (R309) -/
  | cbBit3A
  /-- 0xCB 60 `BIT 4,B` (R309) -/
  | cbBit4B
  /-- 0xCB 61 `BIT 4,C` (R309) -/
  | cbBit4C
  /-- 0xCB 62 `BIT 4,D` (R309) -/
  | cbBit4D
  /-- 0xCB 63 `BIT 4,E` (R309) -/
  | cbBit4E
  /-- 0xCB 64 `BIT 4,H` (R309) -/
  | cbBit4H
  /-- 0xCB 65 `BIT 4,L` (R309) -/
  | cbBit4L
  /-- 0xCB 66 `BIT 4,(HL)` (R309) -/
  | cbBit4MemHl
  /-- 0xCB 67 `BIT 4,A` (R309) -/
  | cbBit4A
  /-- 0xCB 68 `BIT 5,B` (R309) -/
  | cbBit5B
  /-- 0xCB 69 `BIT 5,C` (R309) -/
  | cbBit5C
  /-- 0xCB 6A `BIT 5,D` (R309) -/
  | cbBit5D
  /-- 0xCB 6B `BIT 5,E` (R309) -/
  | cbBit5E
  /-- 0xCB 6C `BIT 5,H` (R309) -/
  | cbBit5H
  /-- 0xCB 6D `BIT 5,L` (R309) -/
  | cbBit5L
  /-- 0xCB 6E `BIT 5,(HL)` (R309) -/
  | cbBit5MemHl
  /-- 0xCB 6F `BIT 5,A` (R309) -/
  | cbBit5A
  /-- 0xCB 70 `BIT 6,B` (R309) -/
  | cbBit6B
  /-- 0xCB 71 `BIT 6,C` (R309) -/
  | cbBit6C
  /-- 0xCB 72 `BIT 6,D` (R309) -/
  | cbBit6D
  /-- 0xCB 73 `BIT 6,E` (R309) -/
  | cbBit6E
  /-- 0xCB 74 `BIT 6,H` (R309) -/
  | cbBit6H
  /-- 0xCB 75 `BIT 6,L` (R309) -/
  | cbBit6L
  /-- 0xCB 76 `BIT 6,(HL)` (R309) -/
  | cbBit6MemHl
  /-- 0xCB 77 `BIT 6,A` (R309) -/
  | cbBit6A
  /-- 0xCB 78 `BIT 7,B` (R309) -/
  | cbBit7B
  /-- 0xCB 79 `BIT 7,C` (R309) -/
  | cbBit7C
  /-- 0xCB 7A `BIT 7,D` (R309) -/
  | cbBit7D
  /-- 0xCB 7B `BIT 7,E` (R309) -/
  | cbBit7E
  /-- 0xCB 7C `BIT 7,H` (R309) -/
  | cbBit7H
  /-- 0xCB 7D `BIT 7,L` (R309) -/
  | cbBit7L
  /-- 0xCB 7E `BIT 7,(HL)` (R309) -/
  | cbBit7MemHl
  /-- 0xCB 7F `BIT 7,A` (R309) -/
  | cbBit7A
  /-- 0xCB 80 `RES 0,B` (R310) -/
  | cbRes0B
  /-- 0xCB 81 `RES 0,C` (R310) -/
  | cbRes0C
  /-- 0xCB 82 `RES 0,D` (R310) -/
  | cbRes0D
  /-- 0xCB 83 `RES 0,E` (R310) -/
  | cbRes0E
  /-- 0xCB 84 `RES 0,H` (R310) -/
  | cbRes0H
  /-- 0xCB 85 `RES 0,L` (R310) -/
  | cbRes0L
  /-- 0xCB 86 `RES 0,(HL)` (R310) -/
  | cbRes0MemHl
  /-- 0xCB 87 `RES 0,A` (R310) -/
  | cbRes0A
  /-- 0xCB 88 `RES 1,B` (R310) -/
  | cbRes1B
  /-- 0xCB 89 `RES 1,C` (R310) -/
  | cbRes1C
  /-- 0xCB 8A `RES 1,D` (R310) -/
  | cbRes1D
  /-- 0xCB 8B `RES 1,E` (R310) -/
  | cbRes1E
  /-- 0xCB 8C `RES 1,H` (R310) -/
  | cbRes1H
  /-- 0xCB 8D `RES 1,L` (R310) -/
  | cbRes1L
  /-- 0xCB 8E `RES 1,(HL)` (R310) -/
  | cbRes1MemHl
  /-- 0xCB 8F `RES 1,A` (R310) -/
  | cbRes1A
  /-- 0xCB 90 `RES 2,B` (R310) -/
  | cbRes2B
  /-- 0xCB 91 `RES 2,C` (R310) -/
  | cbRes2C
  /-- 0xCB 92 `RES 2,D` (R310) -/
  | cbRes2D
  /-- 0xCB 93 `RES 2,E` (R310) -/
  | cbRes2E
  /-- 0xCB 94 `RES 2,H` (R310) -/
  | cbRes2H
  /-- 0xCB 95 `RES 2,L` (R310) -/
  | cbRes2L
  /-- 0xCB 96 `RES 2,(HL)` (R310) -/
  | cbRes2MemHl
  /-- 0xCB 97 `RES 2,A` (R310) -/
  | cbRes2A
  /-- 0xCB 98 `RES 3,B` (R310) -/
  | cbRes3B
  /-- 0xCB 99 `RES 3,C` (R310) -/
  | cbRes3C
  /-- 0xCB 9A `RES 3,D` (R310) -/
  | cbRes3D
  /-- 0xCB 9B `RES 3,E` (R310) -/
  | cbRes3E
  /-- 0xCB 9C `RES 3,H` (R310) -/
  | cbRes3H
  /-- 0xCB 9D `RES 3,L` (R310) -/
  | cbRes3L
  /-- 0xCB 9E `RES 3,(HL)` (R310) -/
  | cbRes3MemHl
  /-- 0xCB 9F `RES 3,A` (R310) -/
  | cbRes3A
  /-- 0xCB A0 `RES 4,B` (R310) -/
  | cbRes4B
  /-- 0xCB A1 `RES 4,C` (R310) -/
  | cbRes4C
  /-- 0xCB A2 `RES 4,D` (R310) -/
  | cbRes4D
  /-- 0xCB A3 `RES 4,E` (R310) -/
  | cbRes4E
  /-- 0xCB A4 `RES 4,H` (R310) -/
  | cbRes4H
  /-- 0xCB A5 `RES 4,L` (R310) -/
  | cbRes4L
  /-- 0xCB A6 `RES 4,(HL)` (R310) -/
  | cbRes4MemHl
  /-- 0xCB A7 `RES 4,A` (R310) -/
  | cbRes4A
  /-- 0xCB A8 `RES 5,B` (R310) -/
  | cbRes5B
  /-- 0xCB A9 `RES 5,C` (R310) -/
  | cbRes5C
  /-- 0xCB AA `RES 5,D` (R310) -/
  | cbRes5D
  /-- 0xCB AB `RES 5,E` (R310) -/
  | cbRes5E
  /-- 0xCB AC `RES 5,H` (R310) -/
  | cbRes5H
  /-- 0xCB AD `RES 5,L` (R310) -/
  | cbRes5L
  /-- 0xCB AE `RES 5,(HL)` (R310) -/
  | cbRes5MemHl
  /-- 0xCB AF `RES 5,A` (R310) -/
  | cbRes5A
  /-- 0xCB B0 `RES 6,B` (R310) -/
  | cbRes6B
  /-- 0xCB B1 `RES 6,C` (R310) -/
  | cbRes6C
  /-- 0xCB B2 `RES 6,D` (R310) -/
  | cbRes6D
  /-- 0xCB B3 `RES 6,E` (R310) -/
  | cbRes6E
  /-- 0xCB B4 `RES 6,H` (R310) -/
  | cbRes6H
  /-- 0xCB B5 `RES 6,L` (R310) -/
  | cbRes6L
  /-- 0xCB B6 `RES 6,(HL)` (R310) -/
  | cbRes6MemHl
  /-- 0xCB B7 `RES 6,A` (R310) -/
  | cbRes6A
  /-- 0xCB B8 `RES 7,B` (R310) -/
  | cbRes7B
  /-- 0xCB B9 `RES 7,C` (R310) -/
  | cbRes7C
  /-- 0xCB BA `RES 7,D` (R310) -/
  | cbRes7D
  /-- 0xCB BB `RES 7,E` (R310) -/
  | cbRes7E
  /-- 0xCB BC `RES 7,H` (R310) -/
  | cbRes7H
  /-- 0xCB BD `RES 7,L` (R310) -/
  | cbRes7L
  /-- 0xCB BE `RES 7,(HL)` (R310) -/
  | cbRes7MemHl
  /-- 0xCB BF `RES 7,A` (R310) -/
  | cbRes7A
  /-- 0xCB C0 `SET 0,B` (R311) -/
  | cbSet0B
  /-- 0xCB C1 `SET 0,C` (R311) -/
  | cbSet0C
  /-- 0xCB C2 `SET 0,D` (R311) -/
  | cbSet0D
  /-- 0xCB C3 `SET 0,E` (R311) -/
  | cbSet0E
  /-- 0xCB C4 `SET 0,H` (R311) -/
  | cbSet0H
  /-- 0xCB C5 `SET 0,L` (R311) -/
  | cbSet0L
  /-- 0xCB C6 `SET 0,(HL)` (R311) -/
  | cbSet0MemHl
  /-- 0xCB C7 `SET 0,A` (R311) -/
  | cbSet0A
  /-- 0xCB C8 `SET 1,B` (R311) -/
  | cbSet1B
  /-- 0xCB C9 `SET 1,C` (R311) -/
  | cbSet1C
  /-- 0xCB CA `SET 1,D` (R311) -/
  | cbSet1D
  /-- 0xCB CB `SET 1,E` (R311) -/
  | cbSet1E
  /-- 0xCB CC `SET 1,H` (R311) -/
  | cbSet1H
  /-- 0xCB CD `SET 1,L` (R311) -/
  | cbSet1L
  /-- 0xCB CE `SET 1,(HL)` (R311) -/
  | cbSet1MemHl
  /-- 0xCB CF `SET 1,A` (R311) -/
  | cbSet1A
  /-- 0xCB D0 `SET 2,B` (R311) -/
  | cbSet2B
  /-- 0xCB D1 `SET 2,C` (R311) -/
  | cbSet2C
  /-- 0xCB D2 `SET 2,D` (R311) -/
  | cbSet2D
  /-- 0xCB D3 `SET 2,E` (R311) -/
  | cbSet2E
  /-- 0xCB D4 `SET 2,H` (R311) -/
  | cbSet2H
  /-- 0xCB D5 `SET 2,L` (R311) -/
  | cbSet2L
  /-- 0xCB D6 `SET 2,(HL)` (R311) -/
  | cbSet2MemHl
  /-- 0xCB D7 `SET 2,A` (R311) -/
  | cbSet2A
  /-- 0xCB D8 `SET 3,B` (R311) -/
  | cbSet3B
  /-- 0xCB D9 `SET 3,C` (R311) -/
  | cbSet3C
  /-- 0xCB DA `SET 3,D` (R311) -/
  | cbSet3D
  /-- 0xCB DB `SET 3,E` (R311) -/
  | cbSet3E
  /-- 0xCB DC `SET 3,H` (R311) -/
  | cbSet3H
  /-- 0xCB DD `SET 3,L` (R311) -/
  | cbSet3L
  /-- 0xCB DE `SET 3,(HL)` (R311) -/
  | cbSet3MemHl
  /-- 0xCB DF `SET 3,A` (R311) -/
  | cbSet3A
  /-- 0xCB E0 `SET 4,B` (R311) -/
  | cbSet4B
  /-- 0xCB E1 `SET 4,C` (R311) -/
  | cbSet4C
  /-- 0xCB E2 `SET 4,D` (R311) -/
  | cbSet4D
  /-- 0xCB E3 `SET 4,E` (R311) -/
  | cbSet4E
  /-- 0xCB E4 `SET 4,H` (R311) -/
  | cbSet4H
  /-- 0xCB E5 `SET 4,L` (R311) -/
  | cbSet4L
  /-- 0xCB E6 `SET 4,(HL)` (R311) -/
  | cbSet4MemHl
  /-- 0xCB E7 `SET 4,A` (R311) -/
  | cbSet4A
  /-- 0xCB E8 `SET 5,B` (R311) -/
  | cbSet5B
  /-- 0xCB E9 `SET 5,C` (R311) -/
  | cbSet5C
  /-- 0xCB EA `SET 5,D` (R311) -/
  | cbSet5D
  /-- 0xCB EB `SET 5,E` (R311) -/
  | cbSet5E
  /-- 0xCB EC `SET 5,H` (R311) -/
  | cbSet5H
  /-- 0xCB ED `SET 5,L` (R311) -/
  | cbSet5L
  /-- 0xCB EE `SET 5,(HL)` (R311) -/
  | cbSet5MemHl
  /-- 0xCB EF `SET 5,A` (R311) -/
  | cbSet5A
  /-- 0xCB F0 `SET 6,B` (R311) -/
  | cbSet6B
  /-- 0xCB F1 `SET 6,C` (R311) -/
  | cbSet6C
  /-- 0xCB F2 `SET 6,D` (R311) -/
  | cbSet6D
  /-- 0xCB F3 `SET 6,E` (R311) -/
  | cbSet6E
  /-- 0xCB F4 `SET 6,H` (R311) -/
  | cbSet6H
  /-- 0xCB F5 `SET 6,L` (R311) -/
  | cbSet6L
  /-- 0xCB F6 `SET 6,(HL)` (R311) -/
  | cbSet6MemHl
  /-- 0xCB F7 `SET 6,A` (R311) -/
  | cbSet6A
  /-- 0xCB F8 `SET 7,B` (R311) -/
  | cbSet7B
  /-- 0xCB F9 `SET 7,C` (R311) -/
  | cbSet7C
  /-- 0xCB FA `SET 7,D` (R311) -/
  | cbSet7D
  /-- 0xCB FB `SET 7,E` (R311) -/
  | cbSet7E
  /-- 0xCB FC `SET 7,H` (R311) -/
  | cbSet7H
  /-- 0xCB FD `SET 7,L` (R311) -/
  | cbSet7L
  /-- 0xCB FE `SET 7,(HL)` (R311) -/
  | cbSet7MemHl
  /-- 0xCB FF `SET 7,A` (R311) -/
  | cbSet7A
deriving DecidableEq, Repr

end Sys2Proof
end

