-- ==== Sys2Proof/Machine/Ops.lean ====
section
/-! DEFINITION. The named operations over registers, memory and the stack that the meanings are written with
(00_scope.md R7), taking the exception (60_exceptions.md R400), taking an interrupt (R412, R413), and returning from
one (46_control.md R330). -/

namespace Sys2Proof.Machine

/-- Read a register named by an operand code (R143). -/
def Cpu.reg (r : Cpu) : Reg8 → Byte
  | .b => r.b
  | .c => r.c
  | .d => r.d
  | .e => r.e
  | .h => r.h
  | .l => r.l
  | .a => r.a

/-- Write a register named by an operand code (R143). -/
def Cpu.setReg (r : Cpu) : Reg8 → Byte → Cpu
  | .b, v => { r with b := v }
  | .c, v => { r with c := v }
  | .d, v => { r with d := v }
  | .e, v => { r with e := v }
  | .h, v => { r with h := v }
  | .l, v => { r with l := v }
  | .a, v => { r with a := v }

/-- F as a byte (R13, R14): Z, N, H, C in bits 7 to 4, zeros below. -/
def Flags.toByte (f : Flags) : Byte :=
  BitVec.ofBool f.z ++ BitVec.ofBool f.n ++ BitVec.ofBool f.h ++ BitVec.ofBool f.c ++ (0 : BitVec 4)

/-- The flags a byte written to F gives: bits 3:0 are dropped (R13). -/
def Flags.ofByte (v : Byte) : Flags := ⟨v.getLsbD 7, v.getLsbD 6, v.getLsbD 5, v.getLsbD 4⟩

/-- The interrupt taken where several are candidates: the lowest-numbered (R412). -/
def interruptChoice (pend : BitVec 5) : Nat :=
  if pend.getLsbD 0 then 0
  else if pend.getLsbD 1 then 1
  else if pend.getLsbD 2 then 2
  else if pend.getLsbD 3 then 3
  else 4

/-- The vector of interrupt `k`, `0x0040 + 8 * k` (R410). -/
def interruptVector (k : Nat) : Addr := BitVec.ofNat 16 (0x0040 + 8 * k)

namespace State

/-- Read a register. -/
def reg (s : State) (r : Reg8) : Byte := s.cpu.reg r

/-- Write a register. -/
def setReg (s : State) (r : Reg8) (v : Byte) : State := { s with cpu := s.cpu.setReg r v }

/-- The four flags. -/
def flags (s : State) : Flags := s.cpu.flags

/-- Write the four flags. -/
def setFlags (s : State) (f : Flags) : State := { s with cpu := { s.cpu with flags := f } }

/-- PC. -/
def pc (s : State) : Addr := s.cpu.pc

/-- `PC <- v` (R7). -/
def setPc (s : State) (v : Addr) : State := { s with cpu := { s.cpu with pc := v } }

/-- SP. -/
def sp (s : State) : Addr := s.cpu.sp

/-- `SP <- v`. -/
def setSp (s : State) (v : Addr) : State := { s with cpu := { s.cpu with sp := v } }

/-- The pair BC (R12). -/
def bc (s : State) : Addr := join16 s.cpu.b s.cpu.c

/-- The pair DE (R12). -/
def de (s : State) : Addr := join16 s.cpu.d s.cpu.e

/-- The pair HL (R12). -/
def hl (s : State) : Addr := join16 s.cpu.h s.cpu.l

/-- The pair AF (R12, R13). -/
def af (s : State) : Addr := join16 s.cpu.a s.cpu.flags.toByte

/-- Write BC (R12). -/
def setBc (s : State) (v : Addr) : State := { s with cpu := { s.cpu with b := hi8 v, c := lo8 v } }

/-- Write DE (R12). -/
def setDe (s : State) (v : Addr) : State := { s with cpu := { s.cpu with d := hi8 v, e := lo8 v } }

/-- Write HL (R12). -/
def setHl (s : State) (v : Addr) : State := { s with cpu := { s.cpu with h := hi8 v, l := lo8 v } }

/-- Write AF (R12): F keeps only bits 7:4 (R13). -/
def setAf (s : State) (v : Addr) : State :=
  { s with cpu := { s.cpu with a := hi8 v, flags := Flags.ofByte (lo8 v) } }

/-- `MemRead(addr, 1)` (R7, R71). -/
def read (s : State) (a : Addr) : Byte := s.bus.read a

/-- `MemWrite(addr, 1, v)` (R7, R72). -/
def write (s : State) (a : Addr) (v : Byte) : State := { s with bus := s.bus.write a v }

/-- `Push16(v)` (R7): the high byte at SP - 1, then the low byte at SP - 2. -/
def push16 (s : State) (v : Addr) : State :=
  ((s.write (s.sp - 1) (hi8 v)).write (s.sp - 2) (lo8 v)).setSp (s.sp - 2)

/-- The value `Pop16()` returns (R7): the low byte at SP, the high byte at SP + 1. -/
def popValue (s : State) : Addr := join16 (s.read (s.sp + 1)) (s.read s.sp)

/-- SP after `Pop16()` (R7). -/
def popped (s : State) : State := s.setSp (s.sp + 2)

/-- How far the opcode fetch moves PC: not at all while the HALT bug is pending (R421, R441). -/
def opcodeStep (s : State) : Addr := if s.ctl.haltBugPending then 0 else 1

/-- The byte `Fetch8()` returns for the operand with the given index, counted from 0 after the opcode byte
(R7, R140, R441). -/
def operandByte (s : State) (index : Nat) : Byte := s.read (s.pc + s.opcodeStep + BitVec.ofNat 16 index)

/-- The state after the opcode byte and the operand bytes of an instruction of `length` bytes have been fetched
(R7, R15, R441): PC is past them, and a pending HALT bug is used up (R421). -/
def fetched (s : State) (length : Nat) : State :=
  { s with cpu := { s.cpu with pc := s.pc + s.opcodeStep + BitVec.ofNat 16 (length - 1) },
           ctl := { s.ctl with haltBugPending := false } }

/-- `raise Fatal(kind, addr, op)` (R400): the one way an exception is taken. The run state and the record change and PC
holds the address of the offending opcode byte; applied to the state in which the instruction began, nothing else.
DEDUCED (log 8) where a HALT bug is pending: unsafe. -/
def raiseFatal (s : State) (kind : FatalKind) (addr : Addr) (op : Byte) : State :=
  { s with cpu := { s.cpu with pc := addr },
           ctl := { s.ctl with runState := .fatal, fatalRecord := some ⟨kind, addr, op⟩ } }

/-- Interrupt dispatch (R413): IME and the EI delay are cleared, the request bit is cleared, PC is pushed, and PC goes
to the vector. `k` is fixed before the push. A pending HALT bug stays pending: DEDUCED (log 9), unsafe. -/
def dispatchInterrupt (s : State) : State :=
  let k := interruptChoice s.bus.pending
  let t := { s with ctl := { s.ctl with ime := false, eiDelay := 0 },
                    bus := { s.bus with intFlag := s.bus.intFlag &&& ~~~(BitVec.twoPow 5 k) } }
  (t.push16 t.pc).setPc (interruptVector k)

/-- `PC <- Pop16()` (R328): the return shared by RET, RET cc and RETI. -/
def returnToCaller (s : State) : State := s.popped.setPc s.popValue

/-- The return from an interrupt (R330): RET, and IME is set at once. -/
def returnFromInterrupt (s : State) : State :=
  let t := s.returnToCaller
  { t with ctl := { t.ctl with ime := true, eiDelay := 0 } }

end State

end Sys2Proof.Machine
end

