-- ==== Sys2Proof/Machine/Operands.lean ====
section
/-! DEFINITION. The operand forms (30_encoding.md R143 to R146, R149): 8-bit operands with the memory byte at HL, the two
register-pair tables, the four conditions, and the address of each memory operand. -/

namespace Sys2Proof.Machine.State

/-- Read an operand named by a 3-bit code (R143). -/
def readOperand (s : State) : Operand8 → Byte
  | .reg r => s.reg r
  | .memHl => s.read s.hl

/-- Write an operand named by a 3-bit code (R143). -/
def writeOperand (s : State) : Operand8 → Byte → State
  | .reg r, v => s.setReg r v
  | .memHl, v => s.write s.hl v

/-- Read `R16[pp]` (R144). -/
def pair (s : State) : Reg16 → Addr
  | .bc => s.bc
  | .de => s.de
  | .hl => s.hl
  | .sp => s.sp

/-- Write `R16[pp]` (R144). -/
def setPair (s : State) : Reg16 → Addr → State
  | .bc, v => s.setBc v
  | .de, v => s.setDe v
  | .hl, v => s.setHl v
  | .sp, v => s.setSp v

/-- Read `R16S[pp]` (R145). -/
def stackPair (s : State) : StackReg → Addr
  | .bc => s.bc
  | .de => s.de
  | .hl => s.hl
  | .af => s.af

/-- Write `R16S[pp]` (R145); AF drops bits 3:0 of F (R13, R237). -/
def setStackPair (s : State) : StackReg → Addr → State
  | .bc, v => s.setBc v
  | .de, v => s.setDe v
  | .hl, v => s.setHl v
  | .af, v => s.setAf v

/-- The address in BC or DE that LD A,(rr) and LD (rr),A use (R205 to R208). -/
def pointer (s : State) : Pointer → Addr
  | .bc => s.bc
  | .de => s.de

/-- What HL becomes after an access through (HL+) or (HL-) (R211, R212, R217, R218). -/
def stepHl (s : State) : HlStep → State
  | .inc => s.setHl (s.hl + 1)
  | .dec => s.setHl (s.hl - 1)

/-- Whether `CC[cc]` holds (R146, R320). -/
def condition (s : State) : Cond → Bool
  | .nz => !s.flags.z
  | .z => s.flags.z
  | .nc => !s.flags.c
  | .c => s.flags.c

end Sys2Proof.Machine.State
end

