-- ==== Sys2Proof/Machine/Flags.lean ====
section
/-! DEFINITION. The results and flags of the arithmetic, logic, rotate and shift instructions
(42_alu8.md R250, 43_alu16.md R280 and R283, 44_rotate_misc.md R290 to R297, 45_cb_prefixed.md R301 to R309). -/

namespace Sys2Proof.Machine

/-- An 8-bit result and the flags that go with it. -/
structure AluResult where
  res : Byte
  flags : Flags
deriving DecidableEq, Repr

/-- `Add8(a, b, c)` (R250). -/
def add8 (a b : Byte) (c : Bool) : AluResult :=
  let s := a.toNat + b.toNat + bit01 c
  let res := BitVec.ofNat 8 s
  ⟨res, res == 0, false, nibble a + nibble b + bit01 c > 0xF, s > 0xFF⟩

/-- `Sub8(a, b, c)` (R250). -/
def sub8 (a b : Byte) (c : Bool) : AluResult :=
  let res := a - b - BitVec.ofNat 8 (bit01 c)
  ⟨res, res == 0, true, nibble a < nibble b + bit01 c, a.toNat < b.toNat + bit01 c⟩

/-- `And8(a, b)` (R250). -/
def and8 (a b : Byte) : AluResult := ⟨a &&& b, a &&& b == 0, false, true, false⟩

/-- `Xor8(a, b)` (R250). -/
def xor8 (a b : Byte) : AluResult := ⟨a ^^^ b, a ^^^ b == 0, false, false, false⟩

/-- `Or8(a, b)` (R250). -/
def or8 (a b : Byte) : AluResult := ⟨a ||| b, a ||| b == 0, false, false, false⟩

/-- `Inc8(a)` (R250), with the carry flag it leaves alone. -/
def inc8 (a : Byte) (keptC : Bool) : AluResult := ⟨a + 1, a + 1 == 0, false, nibble a == 0xF, keptC⟩

/-- `Dec8(a)` (R250), with the carry flag it leaves alone. -/
def dec8 (a : Byte) (keptC : Bool) : AluResult := ⟨a - 1, a - 1 == 0, true, nibble a == 0x0, keptC⟩

/-- The accumulator operation with code `aaa` (R147) on A, an operand and the carry flag (R251 to R274). CP's result is
A itself: the difference is discarded (R272). -/
def alu8 (op : AluOp) (a v : Byte) (carry : Bool) : AluResult :=
  match op with
  | .add => add8 a v false
  | .adc => add8 a v carry
  | .sub => sub8 a v false
  | .sbc => sub8 a v carry
  | .and => and8 a v
  | .xor => xor8 a v
  | .or => or8 a v
  | .cp => { sub8 a v false with res := a }

/-- The 16-bit sum and flags of ADD HL,rr (R280): carries out of bits 11 and 15, Z kept. -/
def addHl16 (a b : Addr) (f : Flags) : Addr × Flags :=
  (a + b, ⟨f.z, false, a.toNat % 0x1000 + b.toNat % 0x1000 > 0xFFF, a.toNat + b.toNat > 0xFFFF⟩)

/-- SP plus a signed displacement, and the flags of adding the raw byte to the low byte of SP (R233, R283). -/
def addSpDisplacement (sp : Addr) (e : Byte) : Addr × Flags :=
  (sp + sext16 e, ⟨false, false, sp.toNat % 16 + nibble e > 0xF, sp.toNat % 256 + e.toNat > 0xFF⟩)

/-- The result and carry out of the rotate or shift with code `y` (R148, R301 to R308), given the carry flag. -/
def shiftValue (op : ShiftOp) (v : Byte) (carry : Bool) : Byte × Bool :=
  match op with
  | .rlc => (v.extractLsb' 0 7 ++ v.extractLsb' 7 1, v.getLsbD 7)
  | .rrc => (v.extractLsb' 0 1 ++ v.extractLsb' 1 7, v.getLsbD 0)
  | .rl => (v.extractLsb' 0 7 ++ BitVec.ofBool carry, v.getLsbD 7)
  | .rr => (BitVec.ofBool carry ++ v.extractLsb' 1 7, v.getLsbD 0)
  | .sla => (v.extractLsb' 0 7 ++ (0 : BitVec 1), v.getLsbD 7)
  | .sra => (v.extractLsb' 7 1 ++ v.extractLsb' 1 7, v.getLsbD 0)
  | .swap => (v.extractLsb' 0 4 ++ v.extractLsb' 4 4, false)
  | .srl => ((0 : BitVec 1) ++ v.extractLsb' 1 7, v.getLsbD 0)

/-- The 0xCB-page rotate or shift: Z from the result, N = H = 0, C the bit shifted out (R301 to R308). -/
def shift8 (op : ShiftOp) (v : Byte) (carry : Bool) : AluResult :=
  let r := shiftValue op v carry
  ⟨r.1, r.1 == 0, false, false, r.2⟩

/-- The accumulator rotate: as the page's, but Z = 0 always (R290 to R293). -/
def rotateA8 (op : ShiftOp) (v : Byte) (carry : Bool) : AluResult :=
  let r := shiftValue op v carry
  ⟨r.1, false, false, false, r.2⟩

/-- The flags of BIT b,r (R309). -/
def bitTestFlags (v : Byte) (b : Fin 8) (f : Flags) : Flags := ⟨!v.getLsbD b, false, true, f.c⟩

/-- The amount DAA adds or subtracts (R294). -/
def daaAdjust (a : Byte) (f : Flags) : Byte :=
  if f.n then
    (if f.h then 0x06 else 0x00) ||| (if f.c then 0x60 else 0x00)
  else
    (if f.h || decide (nibble a > 9) then 0x06 else 0x00) ||| (if f.c || decide (a.toNat > 0x99) then 0x60 else 0x00)

/-- DAA (R294): N kept, H cleared, C kept or set. -/
def daa8 (a : Byte) (f : Flags) : AluResult :=
  let adj := daaAdjust a f
  let res := if f.n then a - adj else a + adj
  ⟨res, res == 0, f.n, false, f.c || (!f.n && decide (a.toNat > 0x99))⟩

end Sys2Proof.Machine
end

