-- ==== Sys2Proof/Machine/Alu16.lean ====
section
/-! DEFINITION. 16-bit arithmetic (43_alu16.md R280 to R283): the shared forms, then one meaning for each instruction. -/

namespace Sys2Proof.Machine

/-- `ADD HL,rr` (R280): Z is not written. -/
def addHlPair (r : Reg16) (s : State) : State :=
  let x := addHl16 s.hl (s.pair r) s.flags
  ((s.fetched 1).setHl x.1).setFlags x.2

/-- `INC rr` (R281): no flag is written. -/
def incPair (r : Reg16) (s : State) : State := (s.fetched 1).setPair r (s.pair r + 1)

/-- `DEC rr` (R282): no flag is written. -/
def decPair (r : Reg16) (s : State) : State := (s.fetched 1).setPair r (s.pair r - 1)

/-- `ADD SP,e` (R283). -/
def addSpImm (e : Byte) (s : State) : State :=
  let x := addSpDisplacement s.sp e
  ((s.fetched 2).setSp x.1).setFlags x.2

/-! ### The instructions -/

/-- 0x03 `INC BC` (R281). -/
def execIncBc (s : State) : Result := .next (incPair .bc s)

/-- 0x09 `ADD HL,BC` (R280). -/
def execAddHlBc (s : State) : Result := .next (addHlPair .bc s)

/-- 0x0B `DEC BC` (R282). -/
def execDecBc (s : State) : Result := .next (decPair .bc s)

/-- 0x13 `INC DE` (R281). -/
def execIncDe (s : State) : Result := .next (incPair .de s)

/-- 0x19 `ADD HL,DE` (R280). -/
def execAddHlDe (s : State) : Result := .next (addHlPair .de s)

/-- 0x1B `DEC DE` (R282). -/
def execDecDe (s : State) : Result := .next (decPair .de s)

/-- 0x23 `INC HL` (R281). -/
def execIncHl (s : State) : Result := .next (incPair .hl s)

/-- 0x29 `ADD HL,HL` (R280). -/
def execAddHlHl (s : State) : Result := .next (addHlPair .hl s)

/-- 0x2B `DEC HL` (R282). -/
def execDecHl (s : State) : Result := .next (decPair .hl s)

/-- 0x33 `INC SP` (R281). -/
def execIncSp (s : State) : Result := .next (incPair .sp s)

/-- 0x39 `ADD HL,SP` (R280). -/
def execAddHlSp (s : State) : Result := .next (addHlPair .sp s)

/-- 0x3B `DEC SP` (R282). -/
def execDecSp (s : State) : Result := .next (decPair .sp s)

/-- 0xE8 `ADD SP,e` (R283). -/
def execAddSpE (e : Byte) (s : State) : Result := .next (addSpImm e s)

end Sys2Proof.Machine
end

