-- ==== Sys2Proof/WellFormed.lean ====
section
/-! DEFINITION. Well-formed instructions. Operands are typed by their widths and every opcode is a constructor of its
own, so one check remains: the prefix byte 0xCB alone is a row of the first table but no instruction (30_encoding.md
R141: it always has a second byte, and the two are one instruction of the second table). -/

namespace Sys2Proof

/-- The instruction is complete: not the lone prefix byte (R141). DESIGN CHOICE (log 13). -/
abbrev WellFormed (i : Instr) : Prop := i ≠ .prefixCb

end Sys2Proof
end

