-- ==== Sys2Proof/Decode.lean ====
section
/-! DEFINITION. Decoding and encoding (30_encoding.md R140 to R153). The operand tables turn fields into names; the
family functions name the constructor an operation and its operands select; `decodeBytes` follows the fields of R142;
`encode` is written from the opcode maps, byte by byte. -/

namespace Sys2Proof

/-! ### The operand tables (R143 to R148) -/

/-- The 8-bit operand code (R143). -/
def operandOfCode : Fin 8 → Operand8
  | 0 => .reg .b
  | 1 => .reg .c
  | 2 => .reg .d
  | 3 => .reg .e
  | 4 => .reg .h
  | 5 => .reg .l
  | 6 => .memHl
  | 7 => .reg .a

/-- The register-pair code `R16` (R144). -/
def reg16OfCode : Fin 4 → Reg16
  | 0 => .bc
  | 1 => .de
  | 2 => .hl
  | 3 => .sp

/-- The register-pair code `R16S` (R145). -/
def stackRegOfCode : Fin 4 → StackReg
  | 0 => .bc
  | 1 => .de
  | 2 => .hl
  | 3 => .af

/-- The condition code (R146). -/
def condOfCode : Fin 4 → Cond
  | 0 => .nz
  | 1 => .z
  | 2 => .nc
  | 3 => .c

/-- The ALU operation code (R147). -/
def aluOpOfCode : Fin 8 → AluOp
  | 0 => .add
  | 1 => .adc
  | 2 => .sub
  | 3 => .sbc
  | 4 => .and
  | 5 => .xor
  | 6 => .or
  | 7 => .cp

/-- The rotate or shift operation code (R148). -/
def shiftOpOfCode : Fin 8 → ShiftOp
  | 0 => .rlc
  | 1 => .rrc
  | 2 => .rl
  | 3 => .rr
  | 4 => .sla
  | 5 => .sra
  | 6 => .swap
  | 7 => .srl

namespace Instr

/-! ### The instruction a family and its operands name -/

/-- LD r,r' (R200). -/
def ldRegReg : Reg8 → Reg8 → Instr
  | .b, .b => .ldBB
  | .b, .c => .ldBC
  | .b, .d => .ldBD
  | .b, .e => .ldBE
  | .b, .h => .ldBH
  | .b, .l => .ldBL
  | .b, .a => .ldBA
  | .c, .b => .ldCB
  | .c, .c => .ldCC
  | .c, .d => .ldCD
  | .c, .e => .ldCE
  | .c, .h => .ldCH
  | .c, .l => .ldCL
  | .c, .a => .ldCA
  | .d, .b => .ldDB
  | .d, .c => .ldDC
  | .d, .d => .ldDD
  | .d, .e => .ldDE
  | .d, .h => .ldDH
  | .d, .l => .ldDL
  | .d, .a => .ldDA
  | .e, .b => .ldEB
  | .e, .c => .ldEC
  | .e, .d => .ldED
  | .e, .e => .ldEE
  | .e, .h => .ldEH
  | .e, .l => .ldEL
  | .e, .a => .ldEA
  | .h, .b => .ldHB
  | .h, .c => .ldHC
  | .h, .d => .ldHD
  | .h, .e => .ldHE
  | .h, .h => .ldHH
  | .h, .l => .ldHL
  | .h, .a => .ldHA
  | .l, .b => .ldLB
  | .l, .c => .ldLC
  | .l, .d => .ldLD
  | .l, .e => .ldLE
  | .l, .h => .ldLH
  | .l, .l => .ldLL
  | .l, .a => .ldLA
  | .a, .b => .ldAB
  | .a, .c => .ldAC
  | .a, .d => .ldAD
  | .a, .e => .ldAE
  | .a, .h => .ldAH
  | .a, .l => .ldAL
  | .a, .a => .ldAA

/-- LD r,n (R201). -/
def ldRegImm (r : Reg8) (n : Byte) : Instr :=
  match r with
  | .b => .ldBN n
  | .c => .ldCN n
  | .d => .ldDN n
  | .e => .ldEN n
  | .h => .ldHN n
  | .l => .ldLN n
  | .a => .ldAN n

/-- LD r,(HL) (R202). -/
def ldRegMemHl : Reg8 → Instr
  | .b => .ldBMemHl
  | .c => .ldCMemHl
  | .d => .ldDMemHl
  | .e => .ldEMemHl
  | .h => .ldHMemHl
  | .l => .ldLMemHl
  | .a => .ldAMemHl

/-- LD (HL),r (R203). -/
def ldMemHlReg : Reg8 → Instr
  | .b => .ldMemHlB
  | .c => .ldMemHlC
  | .d => .ldMemHlD
  | .e => .ldMemHlE
  | .h => .ldMemHlH
  | .l => .ldMemHlL
  | .a => .ldMemHlA

/-- LD A,(BC) and LD A,(DE) (R205, R206). -/
def ldAPointer : Pointer → Instr
  | .bc => .ldAMemBc
  | .de => .ldAMemDe

/-- LD (BC),A and LD (DE),A (R207, R208). -/
def ldPointerA : Pointer → Instr
  | .bc => .ldMemBcA
  | .de => .ldMemDeA

/-- LD A,(HL+) and LD A,(HL-) (R211, R212). -/
def ldAHlStep : HlStep → Instr
  | .inc => .ldAMemHlInc
  | .dec => .ldAMemHlDec

/-- LD (HL+),A and LD (HL-),A (R217, R218). -/
def ldHlStepA : HlStep → Instr
  | .inc => .ldMemHlIncA
  | .dec => .ldMemHlDecA

/-- LD rr,nn (R230). -/
def ldPairImm (r : Reg16) (nn : Addr) : Instr :=
  match r with
  | .bc => .ldBcNn nn
  | .de => .ldDeNn nn
  | .hl => .ldHlNn nn
  | .sp => .ldSpNn nn

/-- PUSH rr (R236). -/
def push : StackReg → Instr
  | .bc => .pushBc
  | .de => .pushDe
  | .hl => .pushHl
  | .af => .pushAf

/-- POP rr (R237). -/
def pop : StackReg → Instr
  | .bc => .popBc
  | .de => .popDe
  | .hl => .popHl
  | .af => .popAf

/-- The eight accumulator operations on a register or (HL) (R251 to R273). -/
def alu : AluOp → Operand8 → Instr
  | .add, .reg .b => .addAB
  | .add, .reg .c => .addAC
  | .add, .reg .d => .addAD
  | .add, .reg .e => .addAE
  | .add, .reg .h => .addAH
  | .add, .reg .l => .addAL
  | .add, .memHl => .addAMemHl
  | .add, .reg .a => .addAA
  | .adc, .reg .b => .adcAB
  | .adc, .reg .c => .adcAC
  | .adc, .reg .d => .adcAD
  | .adc, .reg .e => .adcAE
  | .adc, .reg .h => .adcAH
  | .adc, .reg .l => .adcAL
  | .adc, .memHl => .adcAMemHl
  | .adc, .reg .a => .adcAA
  | .sub, .reg .b => .subB
  | .sub, .reg .c => .subC
  | .sub, .reg .d => .subD
  | .sub, .reg .e => .subE
  | .sub, .reg .h => .subH
  | .sub, .reg .l => .subL
  | .sub, .memHl => .subMemHl
  | .sub, .reg .a => .subA
  | .sbc, .reg .b => .sbcAB
  | .sbc, .reg .c => .sbcAC
  | .sbc, .reg .d => .sbcAD
  | .sbc, .reg .e => .sbcAE
  | .sbc, .reg .h => .sbcAH
  | .sbc, .reg .l => .sbcAL
  | .sbc, .memHl => .sbcAMemHl
  | .sbc, .reg .a => .sbcAA
  | .and, .reg .b => .andB
  | .and, .reg .c => .andC
  | .and, .reg .d => .andD
  | .and, .reg .e => .andE
  | .and, .reg .h => .andH
  | .and, .reg .l => .andL
  | .and, .memHl => .andMemHl
  | .and, .reg .a => .andA
  | .xor, .reg .b => .xorB
  | .xor, .reg .c => .xorC
  | .xor, .reg .d => .xorD
  | .xor, .reg .e => .xorE
  | .xor, .reg .h => .xorH
  | .xor, .reg .l => .xorL
  | .xor, .memHl => .xorMemHl
  | .xor, .reg .a => .xorA
  | .or, .reg .b => .orB
  | .or, .reg .c => .orC
  | .or, .reg .d => .orD
  | .or, .reg .e => .orE
  | .or, .reg .h => .orH
  | .or, .reg .l => .orL
  | .or, .memHl => .orMemHl
  | .or, .reg .a => .orA
  | .cp, .reg .b => .cpAB
  | .cp, .reg .c => .cpAC
  | .cp, .reg .d => .cpAD
  | .cp, .reg .e => .cpAE
  | .cp, .reg .h => .cpAH
  | .cp, .reg .l => .cpAL
  | .cp, .memHl => .cpAMemHl
  | .cp, .reg .a => .cpAA

/-- The eight accumulator operations on an immediate (R253 to R274). -/
def aluImm (op : AluOp) (n : Byte) : Instr :=
  match op with
  | .add => .addAN n
  | .adc => .adcAN n
  | .sub => .subN n
  | .sbc => .sbcAN n
  | .and => .andN n
  | .xor => .xorN n
  | .or => .orN n
  | .cp => .cpAN n

/-- INC r and INC (HL) (R275, R276). -/
def inc : Operand8 → Instr
  | .reg .b => .incB
  | .reg .c => .incC
  | .reg .d => .incD
  | .reg .e => .incE
  | .reg .h => .incH
  | .reg .l => .incL
  | .memHl => .incMemHl
  | .reg .a => .incA

/-- DEC r and DEC (HL) (R277, R278). -/
def dec : Operand8 → Instr
  | .reg .b => .decB
  | .reg .c => .decC
  | .reg .d => .decD
  | .reg .e => .decE
  | .reg .h => .decH
  | .reg .l => .decL
  | .memHl => .decMemHl
  | .reg .a => .decA

/-- ADD HL,rr (R280). -/
def addHl : Reg16 → Instr
  | .bc => .addHlBc
  | .de => .addHlDe
  | .hl => .addHlHl
  | .sp => .addHlSp

/-- INC rr (R281). -/
def incPair : Reg16 → Instr
  | .bc => .incBc
  | .de => .incDe
  | .hl => .incHl
  | .sp => .incSp

/-- DEC rr (R282). -/
def decPair : Reg16 → Instr
  | .bc => .decBc
  | .de => .decDe
  | .hl => .decHl
  | .sp => .decSp

/-- JP cc,nn (R322). -/
def jpIf (cc : Cond) (nn : Addr) : Instr :=
  match cc with
  | .nz => .jpNzNn nn
  | .z => .jpZNn nn
  | .nc => .jpNcNn nn
  | .c => .jpCNn nn

/-- JR cc,e (R325). -/
def jrIf (cc : Cond) (e : Byte) : Instr :=
  match cc with
  | .nz => .jrNzE e
  | .z => .jrZE e
  | .nc => .jrNcE e
  | .c => .jrCE e

/-- CALL cc,nn (R327). -/
def callIf (cc : Cond) (nn : Addr) : Instr :=
  match cc with
  | .nz => .callNzNn nn
  | .z => .callZNn nn
  | .nc => .callNcNn nn
  | .c => .callCNn nn

/-- RET cc (R329). -/
def retIf : Cond → Instr
  | .nz => .retNz
  | .z => .retZ
  | .nc => .retNc
  | .c => .retC

/-- RST t (R333), by the field ttt. -/
def rst : Fin 8 → Instr
  | 0 => .rst00
  | 1 => .rst08
  | 2 => .rst10
  | 3 => .rst18
  | 4 => .rst20
  | 5 => .rst28
  | 6 => .rst30
  | 7 => .rst38

/-- The eleven illegal bytes (R345). -/
def illegal : IllegalByte → Instr
  | .d3 => .illegalD3
  | .db => .illegalDB
  | .dd => .illegalDD
  | .e3 => .illegalE3
  | .e4 => .illegalE4
  | .eb => .illegalEB
  | .ec => .illegalEC
  | .ed => .illegalED
  | .f4 => .illegalF4
  | .fc => .illegalFC
  | .fd => .illegalFD

/-- The rotates and shifts of the 0xCB page (R301 to R308). -/
def shift : ShiftOp → Operand8 → Instr
  | .rlc, .reg .b => .cbRlcB
  | .rlc, .reg .c => .cbRlcC
  | .rlc, .reg .d => .cbRlcD
  | .rlc, .reg .e => .cbRlcE
  | .rlc, .reg .h => .cbRlcH
  | .rlc, .reg .l => .cbRlcL
  | .rlc, .memHl => .cbRlcMemHl
  | .rlc, .reg .a => .cbRlcA
  | .rrc, .reg .b => .cbRrcB
  | .rrc, .reg .c => .cbRrcC
  | .rrc, .reg .d => .cbRrcD
  | .rrc, .reg .e => .cbRrcE
  | .rrc, .reg .h => .cbRrcH
  | .rrc, .reg .l => .cbRrcL
  | .rrc, .memHl => .cbRrcMemHl
  | .rrc, .reg .a => .cbRrcA
  | .rl, .reg .b => .cbRlB
  | .rl, .reg .c => .cbRlC
  | .rl, .reg .d => .cbRlD
  | .rl, .reg .e => .cbRlE
  | .rl, .reg .h => .cbRlH
  | .rl, .reg .l => .cbRlL
  | .rl, .memHl => .cbRlMemHl
  | .rl, .reg .a => .cbRlA
  | .rr, .reg .b => .cbRrB
  | .rr, .reg .c => .cbRrC
  | .rr, .reg .d => .cbRrD
  | .rr, .reg .e => .cbRrE
  | .rr, .reg .h => .cbRrH
  | .rr, .reg .l => .cbRrL
  | .rr, .memHl => .cbRrMemHl
  | .rr, .reg .a => .cbRrA
  | .sla, .reg .b => .cbSlaB
  | .sla, .reg .c => .cbSlaC
  | .sla, .reg .d => .cbSlaD
  | .sla, .reg .e => .cbSlaE
  | .sla, .reg .h => .cbSlaH
  | .sla, .reg .l => .cbSlaL
  | .sla, .memHl => .cbSlaMemHl
  | .sla, .reg .a => .cbSlaA
  | .sra, .reg .b => .cbSraB
  | .sra, .reg .c => .cbSraC
  | .sra, .reg .d => .cbSraD
  | .sra, .reg .e => .cbSraE
  | .sra, .reg .h => .cbSraH
  | .sra, .reg .l => .cbSraL
  | .sra, .memHl => .cbSraMemHl
  | .sra, .reg .a => .cbSraA
  | .swap, .reg .b => .cbSwapB
  | .swap, .reg .c => .cbSwapC
  | .swap, .reg .d => .cbSwapD
  | .swap, .reg .e => .cbSwapE
  | .swap, .reg .h => .cbSwapH
  | .swap, .reg .l => .cbSwapL
  | .swap, .memHl => .cbSwapMemHl
  | .swap, .reg .a => .cbSwapA
  | .srl, .reg .b => .cbSrlB
  | .srl, .reg .c => .cbSrlC
  | .srl, .reg .d => .cbSrlD
  | .srl, .reg .e => .cbSrlE
  | .srl, .reg .h => .cbSrlH
  | .srl, .reg .l => .cbSrlL
  | .srl, .memHl => .cbSrlMemHl
  | .srl, .reg .a => .cbSrlA

/-- BIT b,r (R309). -/
def bit : Fin 8 → Operand8 → Instr
  | 0, .reg .b => .cbBit0B
  | 0, .reg .c => .cbBit0C
  | 0, .reg .d => .cbBit0D
  | 0, .reg .e => .cbBit0E
  | 0, .reg .h => .cbBit0H
  | 0, .reg .l => .cbBit0L
  | 0, .memHl => .cbBit0MemHl
  | 0, .reg .a => .cbBit0A
  | 1, .reg .b => .cbBit1B
  | 1, .reg .c => .cbBit1C
  | 1, .reg .d => .cbBit1D
  | 1, .reg .e => .cbBit1E
  | 1, .reg .h => .cbBit1H
  | 1, .reg .l => .cbBit1L
  | 1, .memHl => .cbBit1MemHl
  | 1, .reg .a => .cbBit1A
  | 2, .reg .b => .cbBit2B
  | 2, .reg .c => .cbBit2C
  | 2, .reg .d => .cbBit2D
  | 2, .reg .e => .cbBit2E
  | 2, .reg .h => .cbBit2H
  | 2, .reg .l => .cbBit2L
  | 2, .memHl => .cbBit2MemHl
  | 2, .reg .a => .cbBit2A
  | 3, .reg .b => .cbBit3B
  | 3, .reg .c => .cbBit3C
  | 3, .reg .d => .cbBit3D
  | 3, .reg .e => .cbBit3E
  | 3, .reg .h => .cbBit3H
  | 3, .reg .l => .cbBit3L
  | 3, .memHl => .cbBit3MemHl
  | 3, .reg .a => .cbBit3A
  | 4, .reg .b => .cbBit4B
  | 4, .reg .c => .cbBit4C
  | 4, .reg .d => .cbBit4D
  | 4, .reg .e => .cbBit4E
  | 4, .reg .h => .cbBit4H
  | 4, .reg .l => .cbBit4L
  | 4, .memHl => .cbBit4MemHl
  | 4, .reg .a => .cbBit4A
  | 5, .reg .b => .cbBit5B
  | 5, .reg .c => .cbBit5C
  | 5, .reg .d => .cbBit5D
  | 5, .reg .e => .cbBit5E
  | 5, .reg .h => .cbBit5H
  | 5, .reg .l => .cbBit5L
  | 5, .memHl => .cbBit5MemHl
  | 5, .reg .a => .cbBit5A
  | 6, .reg .b => .cbBit6B
  | 6, .reg .c => .cbBit6C
  | 6, .reg .d => .cbBit6D
  | 6, .reg .e => .cbBit6E
  | 6, .reg .h => .cbBit6H
  | 6, .reg .l => .cbBit6L
  | 6, .memHl => .cbBit6MemHl
  | 6, .reg .a => .cbBit6A
  | 7, .reg .b => .cbBit7B
  | 7, .reg .c => .cbBit7C
  | 7, .reg .d => .cbBit7D
  | 7, .reg .e => .cbBit7E
  | 7, .reg .h => .cbBit7H
  | 7, .reg .l => .cbBit7L
  | 7, .memHl => .cbBit7MemHl
  | 7, .reg .a => .cbBit7A

/-- RES b,r (R310). -/
def res : Fin 8 → Operand8 → Instr
  | 0, .reg .b => .cbRes0B
  | 0, .reg .c => .cbRes0C
  | 0, .reg .d => .cbRes0D
  | 0, .reg .e => .cbRes0E
  | 0, .reg .h => .cbRes0H
  | 0, .reg .l => .cbRes0L
  | 0, .memHl => .cbRes0MemHl
  | 0, .reg .a => .cbRes0A
  | 1, .reg .b => .cbRes1B
  | 1, .reg .c => .cbRes1C
  | 1, .reg .d => .cbRes1D
  | 1, .reg .e => .cbRes1E
  | 1, .reg .h => .cbRes1H
  | 1, .reg .l => .cbRes1L
  | 1, .memHl => .cbRes1MemHl
  | 1, .reg .a => .cbRes1A
  | 2, .reg .b => .cbRes2B
  | 2, .reg .c => .cbRes2C
  | 2, .reg .d => .cbRes2D
  | 2, .reg .e => .cbRes2E
  | 2, .reg .h => .cbRes2H
  | 2, .reg .l => .cbRes2L
  | 2, .memHl => .cbRes2MemHl
  | 2, .reg .a => .cbRes2A
  | 3, .reg .b => .cbRes3B
  | 3, .reg .c => .cbRes3C
  | 3, .reg .d => .cbRes3D
  | 3, .reg .e => .cbRes3E
  | 3, .reg .h => .cbRes3H
  | 3, .reg .l => .cbRes3L
  | 3, .memHl => .cbRes3MemHl
  | 3, .reg .a => .cbRes3A
  | 4, .reg .b => .cbRes4B
  | 4, .reg .c => .cbRes4C
  | 4, .reg .d => .cbRes4D
  | 4, .reg .e => .cbRes4E
  | 4, .reg .h => .cbRes4H
  | 4, .reg .l => .cbRes4L
  | 4, .memHl => .cbRes4MemHl
  | 4, .reg .a => .cbRes4A
  | 5, .reg .b => .cbRes5B
  | 5, .reg .c => .cbRes5C
  | 5, .reg .d => .cbRes5D
  | 5, .reg .e => .cbRes5E
  | 5, .reg .h => .cbRes5H
  | 5, .reg .l => .cbRes5L
  | 5, .memHl => .cbRes5MemHl
  | 5, .reg .a => .cbRes5A
  | 6, .reg .b => .cbRes6B
  | 6, .reg .c => .cbRes6C
  | 6, .reg .d => .cbRes6D
  | 6, .reg .e => .cbRes6E
  | 6, .reg .h => .cbRes6H
  | 6, .reg .l => .cbRes6L
  | 6, .memHl => .cbRes6MemHl
  | 6, .reg .a => .cbRes6A
  | 7, .reg .b => .cbRes7B
  | 7, .reg .c => .cbRes7C
  | 7, .reg .d => .cbRes7D
  | 7, .reg .e => .cbRes7E
  | 7, .reg .h => .cbRes7H
  | 7, .reg .l => .cbRes7L
  | 7, .memHl => .cbRes7MemHl
  | 7, .reg .a => .cbRes7A

/-- SET b,r (R311). -/
def set : Fin 8 → Operand8 → Instr
  | 0, .reg .b => .cbSet0B
  | 0, .reg .c => .cbSet0C
  | 0, .reg .d => .cbSet0D
  | 0, .reg .e => .cbSet0E
  | 0, .reg .h => .cbSet0H
  | 0, .reg .l => .cbSet0L
  | 0, .memHl => .cbSet0MemHl
  | 0, .reg .a => .cbSet0A
  | 1, .reg .b => .cbSet1B
  | 1, .reg .c => .cbSet1C
  | 1, .reg .d => .cbSet1D
  | 1, .reg .e => .cbSet1E
  | 1, .reg .h => .cbSet1H
  | 1, .reg .l => .cbSet1L
  | 1, .memHl => .cbSet1MemHl
  | 1, .reg .a => .cbSet1A
  | 2, .reg .b => .cbSet2B
  | 2, .reg .c => .cbSet2C
  | 2, .reg .d => .cbSet2D
  | 2, .reg .e => .cbSet2E
  | 2, .reg .h => .cbSet2H
  | 2, .reg .l => .cbSet2L
  | 2, .memHl => .cbSet2MemHl
  | 2, .reg .a => .cbSet2A
  | 3, .reg .b => .cbSet3B
  | 3, .reg .c => .cbSet3C
  | 3, .reg .d => .cbSet3D
  | 3, .reg .e => .cbSet3E
  | 3, .reg .h => .cbSet3H
  | 3, .reg .l => .cbSet3L
  | 3, .memHl => .cbSet3MemHl
  | 3, .reg .a => .cbSet3A
  | 4, .reg .b => .cbSet4B
  | 4, .reg .c => .cbSet4C
  | 4, .reg .d => .cbSet4D
  | 4, .reg .e => .cbSet4E
  | 4, .reg .h => .cbSet4H
  | 4, .reg .l => .cbSet4L
  | 4, .memHl => .cbSet4MemHl
  | 4, .reg .a => .cbSet4A
  | 5, .reg .b => .cbSet5B
  | 5, .reg .c => .cbSet5C
  | 5, .reg .d => .cbSet5D
  | 5, .reg .e => .cbSet5E
  | 5, .reg .h => .cbSet5H
  | 5, .reg .l => .cbSet5L
  | 5, .memHl => .cbSet5MemHl
  | 5, .reg .a => .cbSet5A
  | 6, .reg .b => .cbSet6B
  | 6, .reg .c => .cbSet6C
  | 6, .reg .d => .cbSet6D
  | 6, .reg .e => .cbSet6E
  | 6, .reg .h => .cbSet6H
  | 6, .reg .l => .cbSet6L
  | 6, .memHl => .cbSet6MemHl
  | 6, .reg .a => .cbSet6A
  | 7, .reg .b => .cbSet7B
  | 7, .reg .c => .cbSet7C
  | 7, .reg .d => .cbSet7D
  | 7, .reg .e => .cbSet7E
  | 7, .reg .h => .cbSet7H
  | 7, .reg .l => .cbSet7L
  | 7, .memHl => .cbSet7MemHl
  | 7, .reg .a => .cbSet7A

end Instr

/-- The byte value an illegal opcode has (R152). -/
def IllegalByte.byte : IllegalByte → Byte
  | .d3 => 0xD3
  | .db => 0xDB
  | .dd => 0xDD
  | .e3 => 0xE3
  | .e4 => 0xE4
  | .eb => 0xEB
  | .ec => 0xEC
  | .ed => 0xED
  | .f4 => 0xF4
  | .fc => 0xFC
  | .fd => 0xFD

/-! ### Decoding by fields (R142, R150, R151) -/

/-- The second table (R151): the byte after 0xCB, by its fields x, y and z. -/
def decodeCb (b : Byte) : Instr :=
  match field2 b 6 with
  | 0 => Instr.shift (shiftOpOfCode (field3 b 3)) (operandOfCode (field3 b 0))
  | 1 => Instr.bit (field3 b 3) (operandOfCode (field3 b 0))
  | 2 => Instr.res (field3 b 3) (operandOfCode (field3 b 0))
  | 3 => Instr.set (field3 b 3) (operandOfCode (field3 b 0))

/-- First-table bytes with x = 0 (R150); `n` is byte 1, `nn` the word in bytes 1 and 2. -/
def decodeX0 (b n : Byte) (nn : Addr) : Instr :=
  let p := field2 b 4
  let q := b.getLsbD 3
  match field3 b 0, field3 b 3 with
  | 0, 0 => .nop
  | 0, 1 => .ldMemNnSp nn
  | 0, 2 => .stop n
  | 0, 3 => .jrE n
  | 0, _ => Instr.jrIf (condOfCode (field2 b 3)) n
  | 1, _ => if q then Instr.addHl (reg16OfCode p) else Instr.ldPairImm (reg16OfCode p) nn
  | 2, 0 => .ldMemBcA
  | 2, 1 => .ldAMemBc
  | 2, 2 => .ldMemDeA
  | 2, 3 => .ldAMemDe
  | 2, 4 => .ldMemHlIncA
  | 2, 5 => .ldAMemHlInc
  | 2, 6 => .ldMemHlDecA
  | 2, 7 => .ldAMemHlDec
  | 3, _ => if q then Instr.decPair (reg16OfCode p) else Instr.incPair (reg16OfCode p)
  | 4, y => Instr.inc (operandOfCode y)
  | 5, y => Instr.dec (operandOfCode y)
  | 6, y => match operandOfCode y with
    | .reg r => Instr.ldRegImm r n
    | .memHl => .ldMemHlN n
  | 7, 0 => .rlca
  | 7, 1 => .rrca
  | 7, 2 => .rla
  | 7, 3 => .rra
  | 7, 4 => .daa
  | 7, 5 => .cpl
  | 7, 6 => .scf
  | 7, 7 => .ccf

/-- First-table bytes with x = 1 (R150): loads between operands, and HALT where both would be (HL). -/
def decodeX1 (b : Byte) : Instr :=
  match operandOfCode (field3 b 3), operandOfCode (field3 b 0) with
  | .memHl, .memHl => .halt
  | .memHl, .reg r => Instr.ldMemHlReg r
  | .reg dst, .memHl => Instr.ldRegMemHl dst
  | .reg dst, .reg src => Instr.ldRegReg dst src

/-- First-table bytes with x = 3 (R150), the prefix 0xCB with its second byte `n` (R141, R300). -/
def decodeX3 (b n : Byte) (nn : Addr) : Instr :=
  let cc := condOfCode (field2 b 3)
  match field3 b 0, field3 b 3 with
  | 0, 4 => .ldhMemNA n
  | 0, 5 => .addSpE n
  | 0, 6 => .ldhAMemN n
  | 0, 7 => .ldHlSpE n
  | 0, _ => Instr.retIf cc
  | 1, 1 => .ret
  | 1, 3 => .reti
  | 1, 5 => .jpHl
  | 1, 7 => .ldSpHl
  | 1, _ => Instr.pop (stackRegOfCode (field2 b 4))
  | 2, 4 => .ldhMemCA
  | 2, 5 => .ldMemNnA nn
  | 2, 6 => .ldhAMemC
  | 2, 7 => .ldAMemNn nn
  | 2, _ => Instr.jpIf cc nn
  | 3, 0 => .jpNn nn
  | 3, 1 => decodeCb n
  | 3, 2 => .illegalD3
  | 3, 3 => .illegalDB
  | 3, 4 => .illegalE3
  | 3, 5 => .illegalEB
  | 3, 6 => .di
  | 3, 7 => .ei
  | 4, 4 => .illegalE4
  | 4, 5 => .illegalEC
  | 4, 6 => .illegalF4
  | 4, 7 => .illegalFC
  | 4, _ => Instr.callIf cc nn
  | 5, 1 => .callNn nn
  | 5, 3 => .illegalDD
  | 5, 5 => .illegalED
  | 5, 7 => .illegalFD
  | 5, _ => Instr.push (stackRegOfCode (field2 b 4))
  | 6, y => Instr.aluImm (aluOpOfCode y) n
  | 7, y => Instr.rst y

/-- The instruction whose first bytes are `b0`, `b1`, `b2` (R140, R150, R442). Total: every byte 0 selects a row of the
first table, the illegal ones their own (R152), and every byte after 0xCB a row of the second. -/
def decodeBytes (b0 b1 b2 : Byte) : Instr :=
  let nn := join16 b2 b1
  match field2 b0 6 with
  | 0 => decodeX0 b0 b1 nn
  | 1 => decodeX1 b0
  | 2 => Instr.alu (aluOpOfCode (field3 b0 3)) (operandOfCode (field3 b0 0))
  | 3 => decodeX3 b0 b1 nn

/-- Byte 0 of the instructions of three bytes (R153). -/
def threeByteOpcodes : List Nat := [0x01, 0x08, 0x11, 0x21, 0x31, 0xC2, 0xC3, 0xC4, 0xCA, 0xCC, 0xCD, 0xD2, 0xD4, 0xDA, 0xDC, 0xEA, 0xFA]

/-- Byte 0 of the instructions of two bytes (R153). -/
def twoByteOpcodes : List Nat :=
  [0x06, 0x0E, 0x16, 0x1E, 0x26, 0x2E, 0x36, 0x3E, 0x10, 0xC6, 0xCE, 0xD6, 0xDE, 0xE6, 0xEE, 0xF6, 0xFE, 0xE0, 0xF0] ++
  [0x18, 0x20, 0x28, 0x30, 0x38, 0xE8, 0xF8, 0xCB]

/-- The length in bytes that byte 0 gives (R141, R153); of an illegal byte only the byte itself is read. -/
def lengthOfByte0 (b0 : Byte) : Nat :=
  if threeByteOpcodes.contains b0.toNat then 3 else if twoByteOpcodes.contains b0.toNat then 2 else 1

/-- Why a byte list holds no instruction. -/
inductive DecodeError where
  /-- The list ends before the instruction that its first byte begins does. -/
  | truncated
deriving DecidableEq, Repr

/-- Decode the instruction at the front of a byte list, with the bytes that follow it (R140, R141). -/
def decode (bytes : List Byte) : Except DecodeError (Instr × List Byte) :=
  match bytes with
  | [] => .error .truncated
  | b0 :: _ =>
    if bytes.length < lengthOfByte0 b0 then .error .truncated
    else .ok (decodeBytes b0 (bytes.getD 1 0) (bytes.getD 2 0), bytes.drop (lengthOfByte0 b0))

/-! ### Encoding (R150, R151) -/

/-- The bytes of an instruction in memory order, low byte of `nn` first (R140, R149). -/
def encode : Instr → List Byte
  | .nop => [0x00]
  | .ldBcNn nn => [0x01, lo8 nn, hi8 nn]
  | .ldMemBcA => [0x02]
  | .incBc => [0x03]
  | .incB => [0x04]
  | .decB => [0x05]
  | .ldBN n => [0x06, n]
  | .rlca => [0x07]
  | .ldMemNnSp nn => [0x08, lo8 nn, hi8 nn]
  | .addHlBc => [0x09]
  | .ldAMemBc => [0x0A]
  | .decBc => [0x0B]
  | .incC => [0x0C]
  | .decC => [0x0D]
  | .ldCN n => [0x0E, n]
  | .rrca => [0x0F]
  | .stop n => [0x10, n]
  | .ldDeNn nn => [0x11, lo8 nn, hi8 nn]
  | .ldMemDeA => [0x12]
  | .incDe => [0x13]
  | .incD => [0x14]
  | .decD => [0x15]
  | .ldDN n => [0x16, n]
  | .rla => [0x17]
  | .jrE e => [0x18, e]
  | .addHlDe => [0x19]
  | .ldAMemDe => [0x1A]
  | .decDe => [0x1B]
  | .incE => [0x1C]
  | .decE => [0x1D]
  | .ldEN n => [0x1E, n]
  | .rra => [0x1F]
  | .jrNzE e => [0x20, e]
  | .ldHlNn nn => [0x21, lo8 nn, hi8 nn]
  | .ldMemHlIncA => [0x22]
  | .incHl => [0x23]
  | .incH => [0x24]
  | .decH => [0x25]
  | .ldHN n => [0x26, n]
  | .daa => [0x27]
  | .jrZE e => [0x28, e]
  | .addHlHl => [0x29]
  | .ldAMemHlInc => [0x2A]
  | .decHl => [0x2B]
  | .incL => [0x2C]
  | .decL => [0x2D]
  | .ldLN n => [0x2E, n]
  | .cpl => [0x2F]
  | .jrNcE e => [0x30, e]
  | .ldSpNn nn => [0x31, lo8 nn, hi8 nn]
  | .ldMemHlDecA => [0x32]
  | .incSp => [0x33]
  | .incMemHl => [0x34]
  | .decMemHl => [0x35]
  | .ldMemHlN n => [0x36, n]
  | .scf => [0x37]
  | .jrCE e => [0x38, e]
  | .addHlSp => [0x39]
  | .ldAMemHlDec => [0x3A]
  | .decSp => [0x3B]
  | .incA => [0x3C]
  | .decA => [0x3D]
  | .ldAN n => [0x3E, n]
  | .ccf => [0x3F]
  | .ldBB => [0x40]
  | .ldBC => [0x41]
  | .ldBD => [0x42]
  | .ldBE => [0x43]
  | .ldBH => [0x44]
  | .ldBL => [0x45]
  | .ldBMemHl => [0x46]
  | .ldBA => [0x47]
  | .ldCB => [0x48]
  | .ldCC => [0x49]
  | .ldCD => [0x4A]
  | .ldCE => [0x4B]
  | .ldCH => [0x4C]
  | .ldCL => [0x4D]
  | .ldCMemHl => [0x4E]
  | .ldCA => [0x4F]
  | .ldDB => [0x50]
  | .ldDC => [0x51]
  | .ldDD => [0x52]
  | .ldDE => [0x53]
  | .ldDH => [0x54]
  | .ldDL => [0x55]
  | .ldDMemHl => [0x56]
  | .ldDA => [0x57]
  | .ldEB => [0x58]
  | .ldEC => [0x59]
  | .ldED => [0x5A]
  | .ldEE => [0x5B]
  | .ldEH => [0x5C]
  | .ldEL => [0x5D]
  | .ldEMemHl => [0x5E]
  | .ldEA => [0x5F]
  | .ldHB => [0x60]
  | .ldHC => [0x61]
  | .ldHD => [0x62]
  | .ldHE => [0x63]
  | .ldHH => [0x64]
  | .ldHL => [0x65]
  | .ldHMemHl => [0x66]
  | .ldHA => [0x67]
  | .ldLB => [0x68]
  | .ldLC => [0x69]
  | .ldLD => [0x6A]
  | .ldLE => [0x6B]
  | .ldLH => [0x6C]
  | .ldLL => [0x6D]
  | .ldLMemHl => [0x6E]
  | .ldLA => [0x6F]
  | .ldMemHlB => [0x70]
  | .ldMemHlC => [0x71]
  | .ldMemHlD => [0x72]
  | .ldMemHlE => [0x73]
  | .ldMemHlH => [0x74]
  | .ldMemHlL => [0x75]
  | .halt => [0x76]
  | .ldMemHlA => [0x77]
  | .ldAB => [0x78]
  | .ldAC => [0x79]
  | .ldAD => [0x7A]
  | .ldAE => [0x7B]
  | .ldAH => [0x7C]
  | .ldAL => [0x7D]
  | .ldAMemHl => [0x7E]
  | .ldAA => [0x7F]
  | .addAB => [0x80]
  | .addAC => [0x81]
  | .addAD => [0x82]
  | .addAE => [0x83]
  | .addAH => [0x84]
  | .addAL => [0x85]
  | .addAMemHl => [0x86]
  | .addAA => [0x87]
  | .adcAB => [0x88]
  | .adcAC => [0x89]
  | .adcAD => [0x8A]
  | .adcAE => [0x8B]
  | .adcAH => [0x8C]
  | .adcAL => [0x8D]
  | .adcAMemHl => [0x8E]
  | .adcAA => [0x8F]
  | .subB => [0x90]
  | .subC => [0x91]
  | .subD => [0x92]
  | .subE => [0x93]
  | .subH => [0x94]
  | .subL => [0x95]
  | .subMemHl => [0x96]
  | .subA => [0x97]
  | .sbcAB => [0x98]
  | .sbcAC => [0x99]
  | .sbcAD => [0x9A]
  | .sbcAE => [0x9B]
  | .sbcAH => [0x9C]
  | .sbcAL => [0x9D]
  | .sbcAMemHl => [0x9E]
  | .sbcAA => [0x9F]
  | .andB => [0xA0]
  | .andC => [0xA1]
  | .andD => [0xA2]
  | .andE => [0xA3]
  | .andH => [0xA4]
  | .andL => [0xA5]
  | .andMemHl => [0xA6]
  | .andA => [0xA7]
  | .xorB => [0xA8]
  | .xorC => [0xA9]
  | .xorD => [0xAA]
  | .xorE => [0xAB]
  | .xorH => [0xAC]
  | .xorL => [0xAD]
  | .xorMemHl => [0xAE]
  | .xorA => [0xAF]
  | .orB => [0xB0]
  | .orC => [0xB1]
  | .orD => [0xB2]
  | .orE => [0xB3]
  | .orH => [0xB4]
  | .orL => [0xB5]
  | .orMemHl => [0xB6]
  | .orA => [0xB7]
  | .cpAB => [0xB8]
  | .cpAC => [0xB9]
  | .cpAD => [0xBA]
  | .cpAE => [0xBB]
  | .cpAH => [0xBC]
  | .cpAL => [0xBD]
  | .cpAMemHl => [0xBE]
  | .cpAA => [0xBF]
  | .retNz => [0xC0]
  | .popBc => [0xC1]
  | .jpNzNn nn => [0xC2, lo8 nn, hi8 nn]
  | .jpNn nn => [0xC3, lo8 nn, hi8 nn]
  | .callNzNn nn => [0xC4, lo8 nn, hi8 nn]
  | .pushBc => [0xC5]
  | .addAN n => [0xC6, n]
  | .rst00 => [0xC7]
  | .retZ => [0xC8]
  | .ret => [0xC9]
  | .jpZNn nn => [0xCA, lo8 nn, hi8 nn]
  | .prefixCb => [0xCB]
  | .callZNn nn => [0xCC, lo8 nn, hi8 nn]
  | .callNn nn => [0xCD, lo8 nn, hi8 nn]
  | .adcAN n => [0xCE, n]
  | .rst08 => [0xCF]
  | .retNc => [0xD0]
  | .popDe => [0xD1]
  | .jpNcNn nn => [0xD2, lo8 nn, hi8 nn]
  | .illegalD3 => [0xD3]
  | .callNcNn nn => [0xD4, lo8 nn, hi8 nn]
  | .pushDe => [0xD5]
  | .subN n => [0xD6, n]
  | .rst10 => [0xD7]
  | .retC => [0xD8]
  | .reti => [0xD9]
  | .jpCNn nn => [0xDA, lo8 nn, hi8 nn]
  | .illegalDB => [0xDB]
  | .callCNn nn => [0xDC, lo8 nn, hi8 nn]
  | .illegalDD => [0xDD]
  | .sbcAN n => [0xDE, n]
  | .rst18 => [0xDF]
  | .ldhMemNA n => [0xE0, n]
  | .popHl => [0xE1]
  | .ldhMemCA => [0xE2]
  | .illegalE3 => [0xE3]
  | .illegalE4 => [0xE4]
  | .pushHl => [0xE5]
  | .andN n => [0xE6, n]
  | .rst20 => [0xE7]
  | .addSpE e => [0xE8, e]
  | .jpHl => [0xE9]
  | .ldMemNnA nn => [0xEA, lo8 nn, hi8 nn]
  | .illegalEB => [0xEB]
  | .illegalEC => [0xEC]
  | .illegalED => [0xED]
  | .xorN n => [0xEE, n]
  | .rst28 => [0xEF]
  | .ldhAMemN n => [0xF0, n]
  | .popAf => [0xF1]
  | .ldhAMemC => [0xF2]
  | .di => [0xF3]
  | .illegalF4 => [0xF4]
  | .pushAf => [0xF5]
  | .orN n => [0xF6, n]
  | .rst30 => [0xF7]
  | .ldHlSpE e => [0xF8, e]
  | .ldSpHl => [0xF9]
  | .ldAMemNn nn => [0xFA, lo8 nn, hi8 nn]
  | .ei => [0xFB]
  | .illegalFC => [0xFC]
  | .illegalFD => [0xFD]
  | .cpAN n => [0xFE, n]
  | .rst38 => [0xFF]
  | .cbRlcB => [0xCB, 0x00]
  | .cbRlcC => [0xCB, 0x01]
  | .cbRlcD => [0xCB, 0x02]
  | .cbRlcE => [0xCB, 0x03]
  | .cbRlcH => [0xCB, 0x04]
  | .cbRlcL => [0xCB, 0x05]
  | .cbRlcMemHl => [0xCB, 0x06]
  | .cbRlcA => [0xCB, 0x07]
  | .cbRrcB => [0xCB, 0x08]
  | .cbRrcC => [0xCB, 0x09]
  | .cbRrcD => [0xCB, 0x0A]
  | .cbRrcE => [0xCB, 0x0B]
  | .cbRrcH => [0xCB, 0x0C]
  | .cbRrcL => [0xCB, 0x0D]
  | .cbRrcMemHl => [0xCB, 0x0E]
  | .cbRrcA => [0xCB, 0x0F]
  | .cbRlB => [0xCB, 0x10]
  | .cbRlC => [0xCB, 0x11]
  | .cbRlD => [0xCB, 0x12]
  | .cbRlE => [0xCB, 0x13]
  | .cbRlH => [0xCB, 0x14]
  | .cbRlL => [0xCB, 0x15]
  | .cbRlMemHl => [0xCB, 0x16]
  | .cbRlA => [0xCB, 0x17]
  | .cbRrB => [0xCB, 0x18]
  | .cbRrC => [0xCB, 0x19]
  | .cbRrD => [0xCB, 0x1A]
  | .cbRrE => [0xCB, 0x1B]
  | .cbRrH => [0xCB, 0x1C]
  | .cbRrL => [0xCB, 0x1D]
  | .cbRrMemHl => [0xCB, 0x1E]
  | .cbRrA => [0xCB, 0x1F]
  | .cbSlaB => [0xCB, 0x20]
  | .cbSlaC => [0xCB, 0x21]
  | .cbSlaD => [0xCB, 0x22]
  | .cbSlaE => [0xCB, 0x23]
  | .cbSlaH => [0xCB, 0x24]
  | .cbSlaL => [0xCB, 0x25]
  | .cbSlaMemHl => [0xCB, 0x26]
  | .cbSlaA => [0xCB, 0x27]
  | .cbSraB => [0xCB, 0x28]
  | .cbSraC => [0xCB, 0x29]
  | .cbSraD => [0xCB, 0x2A]
  | .cbSraE => [0xCB, 0x2B]
  | .cbSraH => [0xCB, 0x2C]
  | .cbSraL => [0xCB, 0x2D]
  | .cbSraMemHl => [0xCB, 0x2E]
  | .cbSraA => [0xCB, 0x2F]
  | .cbSwapB => [0xCB, 0x30]
  | .cbSwapC => [0xCB, 0x31]
  | .cbSwapD => [0xCB, 0x32]
  | .cbSwapE => [0xCB, 0x33]
  | .cbSwapH => [0xCB, 0x34]
  | .cbSwapL => [0xCB, 0x35]
  | .cbSwapMemHl => [0xCB, 0x36]
  | .cbSwapA => [0xCB, 0x37]
  | .cbSrlB => [0xCB, 0x38]
  | .cbSrlC => [0xCB, 0x39]
  | .cbSrlD => [0xCB, 0x3A]
  | .cbSrlE => [0xCB, 0x3B]
  | .cbSrlH => [0xCB, 0x3C]
  | .cbSrlL => [0xCB, 0x3D]
  | .cbSrlMemHl => [0xCB, 0x3E]
  | .cbSrlA => [0xCB, 0x3F]
  | .cbBit0B => [0xCB, 0x40]
  | .cbBit0C => [0xCB, 0x41]
  | .cbBit0D => [0xCB, 0x42]
  | .cbBit0E => [0xCB, 0x43]
  | .cbBit0H => [0xCB, 0x44]
  | .cbBit0L => [0xCB, 0x45]
  | .cbBit0MemHl => [0xCB, 0x46]
  | .cbBit0A => [0xCB, 0x47]
  | .cbBit1B => [0xCB, 0x48]
  | .cbBit1C => [0xCB, 0x49]
  | .cbBit1D => [0xCB, 0x4A]
  | .cbBit1E => [0xCB, 0x4B]
  | .cbBit1H => [0xCB, 0x4C]
  | .cbBit1L => [0xCB, 0x4D]
  | .cbBit1MemHl => [0xCB, 0x4E]
  | .cbBit1A => [0xCB, 0x4F]
  | .cbBit2B => [0xCB, 0x50]
  | .cbBit2C => [0xCB, 0x51]
  | .cbBit2D => [0xCB, 0x52]
  | .cbBit2E => [0xCB, 0x53]
  | .cbBit2H => [0xCB, 0x54]
  | .cbBit2L => [0xCB, 0x55]
  | .cbBit2MemHl => [0xCB, 0x56]
  | .cbBit2A => [0xCB, 0x57]
  | .cbBit3B => [0xCB, 0x58]
  | .cbBit3C => [0xCB, 0x59]
  | .cbBit3D => [0xCB, 0x5A]
  | .cbBit3E => [0xCB, 0x5B]
  | .cbBit3H => [0xCB, 0x5C]
  | .cbBit3L => [0xCB, 0x5D]
  | .cbBit3MemHl => [0xCB, 0x5E]
  | .cbBit3A => [0xCB, 0x5F]
  | .cbBit4B => [0xCB, 0x60]
  | .cbBit4C => [0xCB, 0x61]
  | .cbBit4D => [0xCB, 0x62]
  | .cbBit4E => [0xCB, 0x63]
  | .cbBit4H => [0xCB, 0x64]
  | .cbBit4L => [0xCB, 0x65]
  | .cbBit4MemHl => [0xCB, 0x66]
  | .cbBit4A => [0xCB, 0x67]
  | .cbBit5B => [0xCB, 0x68]
  | .cbBit5C => [0xCB, 0x69]
  | .cbBit5D => [0xCB, 0x6A]
  | .cbBit5E => [0xCB, 0x6B]
  | .cbBit5H => [0xCB, 0x6C]
  | .cbBit5L => [0xCB, 0x6D]
  | .cbBit5MemHl => [0xCB, 0x6E]
  | .cbBit5A => [0xCB, 0x6F]
  | .cbBit6B => [0xCB, 0x70]
  | .cbBit6C => [0xCB, 0x71]
  | .cbBit6D => [0xCB, 0x72]
  | .cbBit6E => [0xCB, 0x73]
  | .cbBit6H => [0xCB, 0x74]
  | .cbBit6L => [0xCB, 0x75]
  | .cbBit6MemHl => [0xCB, 0x76]
  | .cbBit6A => [0xCB, 0x77]
  | .cbBit7B => [0xCB, 0x78]
  | .cbBit7C => [0xCB, 0x79]
  | .cbBit7D => [0xCB, 0x7A]
  | .cbBit7E => [0xCB, 0x7B]
  | .cbBit7H => [0xCB, 0x7C]
  | .cbBit7L => [0xCB, 0x7D]
  | .cbBit7MemHl => [0xCB, 0x7E]
  | .cbBit7A => [0xCB, 0x7F]
  | .cbRes0B => [0xCB, 0x80]
  | .cbRes0C => [0xCB, 0x81]
  | .cbRes0D => [0xCB, 0x82]
  | .cbRes0E => [0xCB, 0x83]
  | .cbRes0H => [0xCB, 0x84]
  | .cbRes0L => [0xCB, 0x85]
  | .cbRes0MemHl => [0xCB, 0x86]
  | .cbRes0A => [0xCB, 0x87]
  | .cbRes1B => [0xCB, 0x88]
  | .cbRes1C => [0xCB, 0x89]
  | .cbRes1D => [0xCB, 0x8A]
  | .cbRes1E => [0xCB, 0x8B]
  | .cbRes1H => [0xCB, 0x8C]
  | .cbRes1L => [0xCB, 0x8D]
  | .cbRes1MemHl => [0xCB, 0x8E]
  | .cbRes1A => [0xCB, 0x8F]
  | .cbRes2B => [0xCB, 0x90]
  | .cbRes2C => [0xCB, 0x91]
  | .cbRes2D => [0xCB, 0x92]
  | .cbRes2E => [0xCB, 0x93]
  | .cbRes2H => [0xCB, 0x94]
  | .cbRes2L => [0xCB, 0x95]
  | .cbRes2MemHl => [0xCB, 0x96]
  | .cbRes2A => [0xCB, 0x97]
  | .cbRes3B => [0xCB, 0x98]
  | .cbRes3C => [0xCB, 0x99]
  | .cbRes3D => [0xCB, 0x9A]
  | .cbRes3E => [0xCB, 0x9B]
  | .cbRes3H => [0xCB, 0x9C]
  | .cbRes3L => [0xCB, 0x9D]
  | .cbRes3MemHl => [0xCB, 0x9E]
  | .cbRes3A => [0xCB, 0x9F]
  | .cbRes4B => [0xCB, 0xA0]
  | .cbRes4C => [0xCB, 0xA1]
  | .cbRes4D => [0xCB, 0xA2]
  | .cbRes4E => [0xCB, 0xA3]
  | .cbRes4H => [0xCB, 0xA4]
  | .cbRes4L => [0xCB, 0xA5]
  | .cbRes4MemHl => [0xCB, 0xA6]
  | .cbRes4A => [0xCB, 0xA7]
  | .cbRes5B => [0xCB, 0xA8]
  | .cbRes5C => [0xCB, 0xA9]
  | .cbRes5D => [0xCB, 0xAA]
  | .cbRes5E => [0xCB, 0xAB]
  | .cbRes5H => [0xCB, 0xAC]
  | .cbRes5L => [0xCB, 0xAD]
  | .cbRes5MemHl => [0xCB, 0xAE]
  | .cbRes5A => [0xCB, 0xAF]
  | .cbRes6B => [0xCB, 0xB0]
  | .cbRes6C => [0xCB, 0xB1]
  | .cbRes6D => [0xCB, 0xB2]
  | .cbRes6E => [0xCB, 0xB3]
  | .cbRes6H => [0xCB, 0xB4]
  | .cbRes6L => [0xCB, 0xB5]
  | .cbRes6MemHl => [0xCB, 0xB6]
  | .cbRes6A => [0xCB, 0xB7]
  | .cbRes7B => [0xCB, 0xB8]
  | .cbRes7C => [0xCB, 0xB9]
  | .cbRes7D => [0xCB, 0xBA]
  | .cbRes7E => [0xCB, 0xBB]
  | .cbRes7H => [0xCB, 0xBC]
  | .cbRes7L => [0xCB, 0xBD]
  | .cbRes7MemHl => [0xCB, 0xBE]
  | .cbRes7A => [0xCB, 0xBF]
  | .cbSet0B => [0xCB, 0xC0]
  | .cbSet0C => [0xCB, 0xC1]
  | .cbSet0D => [0xCB, 0xC2]
  | .cbSet0E => [0xCB, 0xC3]
  | .cbSet0H => [0xCB, 0xC4]
  | .cbSet0L => [0xCB, 0xC5]
  | .cbSet0MemHl => [0xCB, 0xC6]
  | .cbSet0A => [0xCB, 0xC7]
  | .cbSet1B => [0xCB, 0xC8]
  | .cbSet1C => [0xCB, 0xC9]
  | .cbSet1D => [0xCB, 0xCA]
  | .cbSet1E => [0xCB, 0xCB]
  | .cbSet1H => [0xCB, 0xCC]
  | .cbSet1L => [0xCB, 0xCD]
  | .cbSet1MemHl => [0xCB, 0xCE]
  | .cbSet1A => [0xCB, 0xCF]
  | .cbSet2B => [0xCB, 0xD0]
  | .cbSet2C => [0xCB, 0xD1]
  | .cbSet2D => [0xCB, 0xD2]
  | .cbSet2E => [0xCB, 0xD3]
  | .cbSet2H => [0xCB, 0xD4]
  | .cbSet2L => [0xCB, 0xD5]
  | .cbSet2MemHl => [0xCB, 0xD6]
  | .cbSet2A => [0xCB, 0xD7]
  | .cbSet3B => [0xCB, 0xD8]
  | .cbSet3C => [0xCB, 0xD9]
  | .cbSet3D => [0xCB, 0xDA]
  | .cbSet3E => [0xCB, 0xDB]
  | .cbSet3H => [0xCB, 0xDC]
  | .cbSet3L => [0xCB, 0xDD]
  | .cbSet3MemHl => [0xCB, 0xDE]
  | .cbSet3A => [0xCB, 0xDF]
  | .cbSet4B => [0xCB, 0xE0]
  | .cbSet4C => [0xCB, 0xE1]
  | .cbSet4D => [0xCB, 0xE2]
  | .cbSet4E => [0xCB, 0xE3]
  | .cbSet4H => [0xCB, 0xE4]
  | .cbSet4L => [0xCB, 0xE5]
  | .cbSet4MemHl => [0xCB, 0xE6]
  | .cbSet4A => [0xCB, 0xE7]
  | .cbSet5B => [0xCB, 0xE8]
  | .cbSet5C => [0xCB, 0xE9]
  | .cbSet5D => [0xCB, 0xEA]
  | .cbSet5E => [0xCB, 0xEB]
  | .cbSet5H => [0xCB, 0xEC]
  | .cbSet5L => [0xCB, 0xED]
  | .cbSet5MemHl => [0xCB, 0xEE]
  | .cbSet5A => [0xCB, 0xEF]
  | .cbSet6B => [0xCB, 0xF0]
  | .cbSet6C => [0xCB, 0xF1]
  | .cbSet6D => [0xCB, 0xF2]
  | .cbSet6E => [0xCB, 0xF3]
  | .cbSet6H => [0xCB, 0xF4]
  | .cbSet6L => [0xCB, 0xF5]
  | .cbSet6MemHl => [0xCB, 0xF6]
  | .cbSet6A => [0xCB, 0xF7]
  | .cbSet7B => [0xCB, 0xF8]
  | .cbSet7C => [0xCB, 0xF9]
  | .cbSet7D => [0xCB, 0xFA]
  | .cbSet7E => [0xCB, 0xFB]
  | .cbSet7H => [0xCB, 0xFC]
  | .cbSet7L => [0xCB, 0xFD]
  | .cbSet7MemHl => [0xCB, 0xFE]
  | .cbSet7A => [0xCB, 0xFF]

/-- The length of an instruction in bytes (R153). -/
def Instr.length (i : Instr) : Nat := lengthOfByte0 ((encode i).headD 0)

/-! ### The opcode table's words -/

/-- The bytes, in memory order, that a word of spec/opcode_table.json stands for. A row of the second table is
numbered with byte 0, which is 0xCB, in bits 15:8 (30_encoding.md, introduction); any other word has byte 0 in its low
bits and the later bytes above. DEDUCED (log 14). -/
def tableBytes (nbits w : Nat) : List Byte :=
  if nbits = 16 ∧ w / 256 = 0xCB then [0xCB, BitVec.ofNat 8 w, 0]
  else [BitVec.ofNat 8 w, BitVec.ofNat 8 (w / 256), BitVec.ofNat 8 (w / 65536)]

/-- The instruction the decoder reads from a word of the table. The row PREFIX_CB is the first table's cell for the
byte 0xCB alone (R150), which is no instruction before its second byte is read (R141): the lone byte answers that row.
DESIGN CHOICE (log 13). -/
def decodeTableWord (nbits w : Nat) : Option Instr :=
  if nbits = 0 then none
  else if w = 0xCB then some .prefixCb
  else match decode (tableBytes nbits w) with
    | .ok (i, _) => some i
    | .error _ => none

end Sys2Proof
end

