-- ==== Sys2Proof/Machine/CbPage.lean ====
section
/-! DEFINITION. The 0xCB-prefixed instructions (45_cb_prefixed.md R300 to R311): the shared forms, then one meaning for each
instruction. -/

namespace Sys2Proof.Machine

/-- A rotate or shift of a register or of the byte at HL (R301 to R308). -/
def shiftOperand (op : ShiftOp) (x : Operand8) (s : State) : State :=
  let r := shift8 op (s.readOperand x) s.flags.c
  ((s.fetched 2).writeOperand x r.res).setFlags r.flags

/-- `BIT b,r` (R309): the operand is read and not written. -/
def testBit (b : Fin 8) (x : Operand8) (s : State) : State :=
  (s.fetched 2).setFlags (bitTestFlags (s.readOperand x) b s.flags)

/-- `RES b,r` (R310). -/
def clearBit (b : Fin 8) (x : Operand8) (s : State) : State :=
  (s.fetched 2).writeOperand x (s.readOperand x &&& ~~~(BitVec.twoPow 8 b))

/-- `SET b,r` (R311). -/
def setBit (b : Fin 8) (x : Operand8) (s : State) : State :=
  (s.fetched 2).writeOperand x (s.readOperand x ||| BitVec.twoPow 8 b)

/-- The instruction of the second table that the byte `op2` selects (R151, R300), run in one step with its prefix. -/
def cbPage (op2 : Byte) (s : State) : State :=
  let x := operandOfCode (field3 op2 0)
  match field2 op2 6 with
  | 0 => shiftOperand (shiftOpOfCode (field3 op2 3)) x s
  | 1 => testBit (field3 op2 3) x s
  | 2 => clearBit (field3 op2 3) x s
  | 3 => setBit (field3 op2 3) x s

/-- The prefix byte 0xCB (R300, R442): fetch the second byte and run the instruction it selects. -/
def cbPageAtPc (s : State) : State := cbPage (s.operandByte 0) s

/-! ### The instructions -/

/-- 0xCB `PREFIX CB` (R300). DESIGN CHOICE (log 13): a constructor of its own. -/
def execPrefixCb (s : State) : Result := .next (cbPageAtPc s)

/-- 0xCB 00 `RLC B` (R301). -/
def execCbRlcB (s : State) : Result := .next (shiftOperand .rlc (.reg .b) s)

/-- 0xCB 01 `RLC C` (R301). -/
def execCbRlcC (s : State) : Result := .next (shiftOperand .rlc (.reg .c) s)

/-- 0xCB 02 `RLC D` (R301). -/
def execCbRlcD (s : State) : Result := .next (shiftOperand .rlc (.reg .d) s)

/-- 0xCB 03 `RLC E` (R301). -/
def execCbRlcE (s : State) : Result := .next (shiftOperand .rlc (.reg .e) s)

/-- 0xCB 04 `RLC H` (R301). -/
def execCbRlcH (s : State) : Result := .next (shiftOperand .rlc (.reg .h) s)

/-- 0xCB 05 `RLC L` (R301). -/
def execCbRlcL (s : State) : Result := .next (shiftOperand .rlc (.reg .l) s)

/-- 0xCB 06 `RLC (HL)` (R301). -/
def execCbRlcMemHl (s : State) : Result := .next (shiftOperand .rlc .memHl s)

/-- 0xCB 07 `RLC A` (R301). -/
def execCbRlcA (s : State) : Result := .next (shiftOperand .rlc (.reg .a) s)

/-- 0xCB 08 `RRC B` (R302). -/
def execCbRrcB (s : State) : Result := .next (shiftOperand .rrc (.reg .b) s)

/-- 0xCB 09 `RRC C` (R302). -/
def execCbRrcC (s : State) : Result := .next (shiftOperand .rrc (.reg .c) s)

/-- 0xCB 0A `RRC D` (R302). -/
def execCbRrcD (s : State) : Result := .next (shiftOperand .rrc (.reg .d) s)

/-- 0xCB 0B `RRC E` (R302). -/
def execCbRrcE (s : State) : Result := .next (shiftOperand .rrc (.reg .e) s)

/-- 0xCB 0C `RRC H` (R302). -/
def execCbRrcH (s : State) : Result := .next (shiftOperand .rrc (.reg .h) s)

/-- 0xCB 0D `RRC L` (R302). -/
def execCbRrcL (s : State) : Result := .next (shiftOperand .rrc (.reg .l) s)

/-- 0xCB 0E `RRC (HL)` (R302). -/
def execCbRrcMemHl (s : State) : Result := .next (shiftOperand .rrc .memHl s)

/-- 0xCB 0F `RRC A` (R302). -/
def execCbRrcA (s : State) : Result := .next (shiftOperand .rrc (.reg .a) s)

/-- 0xCB 10 `RL B` (R303). -/
def execCbRlB (s : State) : Result := .next (shiftOperand .rl (.reg .b) s)

/-- 0xCB 11 `RL C` (R303). -/
def execCbRlC (s : State) : Result := .next (shiftOperand .rl (.reg .c) s)

/-- 0xCB 12 `RL D` (R303). -/
def execCbRlD (s : State) : Result := .next (shiftOperand .rl (.reg .d) s)

/-- 0xCB 13 `RL E` (R303). -/
def execCbRlE (s : State) : Result := .next (shiftOperand .rl (.reg .e) s)

/-- 0xCB 14 `RL H` (R303). -/
def execCbRlH (s : State) : Result := .next (shiftOperand .rl (.reg .h) s)

/-- 0xCB 15 `RL L` (R303). -/
def execCbRlL (s : State) : Result := .next (shiftOperand .rl (.reg .l) s)

/-- 0xCB 16 `RL (HL)` (R303). -/
def execCbRlMemHl (s : State) : Result := .next (shiftOperand .rl .memHl s)

/-- 0xCB 17 `RL A` (R303). -/
def execCbRlA (s : State) : Result := .next (shiftOperand .rl (.reg .a) s)

/-- 0xCB 18 `RR B` (R304). -/
def execCbRrB (s : State) : Result := .next (shiftOperand .rr (.reg .b) s)

/-- 0xCB 19 `RR C` (R304). -/
def execCbRrC (s : State) : Result := .next (shiftOperand .rr (.reg .c) s)

/-- 0xCB 1A `RR D` (R304). -/
def execCbRrD (s : State) : Result := .next (shiftOperand .rr (.reg .d) s)

/-- 0xCB 1B `RR E` (R304). -/
def execCbRrE (s : State) : Result := .next (shiftOperand .rr (.reg .e) s)

/-- 0xCB 1C `RR H` (R304). -/
def execCbRrH (s : State) : Result := .next (shiftOperand .rr (.reg .h) s)

/-- 0xCB 1D `RR L` (R304). -/
def execCbRrL (s : State) : Result := .next (shiftOperand .rr (.reg .l) s)

/-- 0xCB 1E `RR (HL)` (R304). -/
def execCbRrMemHl (s : State) : Result := .next (shiftOperand .rr .memHl s)

/-- 0xCB 1F `RR A` (R304). -/
def execCbRrA (s : State) : Result := .next (shiftOperand .rr (.reg .a) s)

/-- 0xCB 20 `SLA B` (R305). -/
def execCbSlaB (s : State) : Result := .next (shiftOperand .sla (.reg .b) s)

/-- 0xCB 21 `SLA C` (R305). -/
def execCbSlaC (s : State) : Result := .next (shiftOperand .sla (.reg .c) s)

/-- 0xCB 22 `SLA D` (R305). -/
def execCbSlaD (s : State) : Result := .next (shiftOperand .sla (.reg .d) s)

/-- 0xCB 23 `SLA E` (R305). -/
def execCbSlaE (s : State) : Result := .next (shiftOperand .sla (.reg .e) s)

/-- 0xCB 24 `SLA H` (R305). -/
def execCbSlaH (s : State) : Result := .next (shiftOperand .sla (.reg .h) s)

/-- 0xCB 25 `SLA L` (R305). -/
def execCbSlaL (s : State) : Result := .next (shiftOperand .sla (.reg .l) s)

/-- 0xCB 26 `SLA (HL)` (R305). -/
def execCbSlaMemHl (s : State) : Result := .next (shiftOperand .sla .memHl s)

/-- 0xCB 27 `SLA A` (R305). -/
def execCbSlaA (s : State) : Result := .next (shiftOperand .sla (.reg .a) s)

/-- 0xCB 28 `SRA B` (R306). -/
def execCbSraB (s : State) : Result := .next (shiftOperand .sra (.reg .b) s)

/-- 0xCB 29 `SRA C` (R306). -/
def execCbSraC (s : State) : Result := .next (shiftOperand .sra (.reg .c) s)

/-- 0xCB 2A `SRA D` (R306). -/
def execCbSraD (s : State) : Result := .next (shiftOperand .sra (.reg .d) s)

/-- 0xCB 2B `SRA E` (R306). -/
def execCbSraE (s : State) : Result := .next (shiftOperand .sra (.reg .e) s)

/-- 0xCB 2C `SRA H` (R306). -/
def execCbSraH (s : State) : Result := .next (shiftOperand .sra (.reg .h) s)

/-- 0xCB 2D `SRA L` (R306). -/
def execCbSraL (s : State) : Result := .next (shiftOperand .sra (.reg .l) s)

/-- 0xCB 2E `SRA (HL)` (R306). -/
def execCbSraMemHl (s : State) : Result := .next (shiftOperand .sra .memHl s)

/-- 0xCB 2F `SRA A` (R306). -/
def execCbSraA (s : State) : Result := .next (shiftOperand .sra (.reg .a) s)

/-- 0xCB 30 `SWAP B` (R307). -/
def execCbSwapB (s : State) : Result := .next (shiftOperand .swap (.reg .b) s)

/-- 0xCB 31 `SWAP C` (R307). -/
def execCbSwapC (s : State) : Result := .next (shiftOperand .swap (.reg .c) s)

/-- 0xCB 32 `SWAP D` (R307). -/
def execCbSwapD (s : State) : Result := .next (shiftOperand .swap (.reg .d) s)

/-- 0xCB 33 `SWAP E` (R307). -/
def execCbSwapE (s : State) : Result := .next (shiftOperand .swap (.reg .e) s)

/-- 0xCB 34 `SWAP H` (R307). -/
def execCbSwapH (s : State) : Result := .next (shiftOperand .swap (.reg .h) s)

/-- 0xCB 35 `SWAP L` (R307). -/
def execCbSwapL (s : State) : Result := .next (shiftOperand .swap (.reg .l) s)

/-- 0xCB 36 `SWAP (HL)` (R307). -/
def execCbSwapMemHl (s : State) : Result := .next (shiftOperand .swap .memHl s)

/-- 0xCB 37 `SWAP A` (R307). -/
def execCbSwapA (s : State) : Result := .next (shiftOperand .swap (.reg .a) s)

/-- 0xCB 38 `SRL B` (R308). -/
def execCbSrlB (s : State) : Result := .next (shiftOperand .srl (.reg .b) s)

/-- 0xCB 39 `SRL C` (R308). -/
def execCbSrlC (s : State) : Result := .next (shiftOperand .srl (.reg .c) s)

/-- 0xCB 3A `SRL D` (R308). -/
def execCbSrlD (s : State) : Result := .next (shiftOperand .srl (.reg .d) s)

/-- 0xCB 3B `SRL E` (R308). -/
def execCbSrlE (s : State) : Result := .next (shiftOperand .srl (.reg .e) s)

/-- 0xCB 3C `SRL H` (R308). -/
def execCbSrlH (s : State) : Result := .next (shiftOperand .srl (.reg .h) s)

/-- 0xCB 3D `SRL L` (R308). -/
def execCbSrlL (s : State) : Result := .next (shiftOperand .srl (.reg .l) s)

/-- 0xCB 3E `SRL (HL)` (R308). -/
def execCbSrlMemHl (s : State) : Result := .next (shiftOperand .srl .memHl s)

/-- 0xCB 3F `SRL A` (R308). -/
def execCbSrlA (s : State) : Result := .next (shiftOperand .srl (.reg .a) s)

/-- 0xCB 40 `BIT 0,B` (R309). -/
def execCbBit0B (s : State) : Result := .next (testBit 0 (.reg .b) s)

/-- 0xCB 41 `BIT 0,C` (R309). -/
def execCbBit0C (s : State) : Result := .next (testBit 0 (.reg .c) s)

/-- 0xCB 42 `BIT 0,D` (R309). -/
def execCbBit0D (s : State) : Result := .next (testBit 0 (.reg .d) s)

/-- 0xCB 43 `BIT 0,E` (R309). -/
def execCbBit0E (s : State) : Result := .next (testBit 0 (.reg .e) s)

/-- 0xCB 44 `BIT 0,H` (R309). -/
def execCbBit0H (s : State) : Result := .next (testBit 0 (.reg .h) s)

/-- 0xCB 45 `BIT 0,L` (R309). -/
def execCbBit0L (s : State) : Result := .next (testBit 0 (.reg .l) s)

/-- 0xCB 46 `BIT 0,(HL)` (R309). -/
def execCbBit0MemHl (s : State) : Result := .next (testBit 0 .memHl s)

/-- 0xCB 47 `BIT 0,A` (R309). -/
def execCbBit0A (s : State) : Result := .next (testBit 0 (.reg .a) s)

/-- 0xCB 48 `BIT 1,B` (R309). -/
def execCbBit1B (s : State) : Result := .next (testBit 1 (.reg .b) s)

/-- 0xCB 49 `BIT 1,C` (R309). -/
def execCbBit1C (s : State) : Result := .next (testBit 1 (.reg .c) s)

/-- 0xCB 4A `BIT 1,D` (R309). -/
def execCbBit1D (s : State) : Result := .next (testBit 1 (.reg .d) s)

/-- 0xCB 4B `BIT 1,E` (R309). -/
def execCbBit1E (s : State) : Result := .next (testBit 1 (.reg .e) s)

/-- 0xCB 4C `BIT 1,H` (R309). -/
def execCbBit1H (s : State) : Result := .next (testBit 1 (.reg .h) s)

/-- 0xCB 4D `BIT 1,L` (R309). -/
def execCbBit1L (s : State) : Result := .next (testBit 1 (.reg .l) s)

/-- 0xCB 4E `BIT 1,(HL)` (R309). -/
def execCbBit1MemHl (s : State) : Result := .next (testBit 1 .memHl s)

/-- 0xCB 4F `BIT 1,A` (R309). -/
def execCbBit1A (s : State) : Result := .next (testBit 1 (.reg .a) s)

/-- 0xCB 50 `BIT 2,B` (R309). -/
def execCbBit2B (s : State) : Result := .next (testBit 2 (.reg .b) s)

/-- 0xCB 51 `BIT 2,C` (R309). -/
def execCbBit2C (s : State) : Result := .next (testBit 2 (.reg .c) s)

/-- 0xCB 52 `BIT 2,D` (R309). -/
def execCbBit2D (s : State) : Result := .next (testBit 2 (.reg .d) s)

/-- 0xCB 53 `BIT 2,E` (R309). -/
def execCbBit2E (s : State) : Result := .next (testBit 2 (.reg .e) s)

/-- 0xCB 54 `BIT 2,H` (R309). -/
def execCbBit2H (s : State) : Result := .next (testBit 2 (.reg .h) s)

/-- 0xCB 55 `BIT 2,L` (R309). -/
def execCbBit2L (s : State) : Result := .next (testBit 2 (.reg .l) s)

/-- 0xCB 56 `BIT 2,(HL)` (R309). -/
def execCbBit2MemHl (s : State) : Result := .next (testBit 2 .memHl s)

/-- 0xCB 57 `BIT 2,A` (R309). -/
def execCbBit2A (s : State) : Result := .next (testBit 2 (.reg .a) s)

/-- 0xCB 58 `BIT 3,B` (R309). -/
def execCbBit3B (s : State) : Result := .next (testBit 3 (.reg .b) s)

/-- 0xCB 59 `BIT 3,C` (R309). -/
def execCbBit3C (s : State) : Result := .next (testBit 3 (.reg .c) s)

/-- 0xCB 5A `BIT 3,D` (R309). -/
def execCbBit3D (s : State) : Result := .next (testBit 3 (.reg .d) s)

/-- 0xCB 5B `BIT 3,E` (R309). -/
def execCbBit3E (s : State) : Result := .next (testBit 3 (.reg .e) s)

/-- 0xCB 5C `BIT 3,H` (R309). -/
def execCbBit3H (s : State) : Result := .next (testBit 3 (.reg .h) s)

/-- 0xCB 5D `BIT 3,L` (R309). -/
def execCbBit3L (s : State) : Result := .next (testBit 3 (.reg .l) s)

/-- 0xCB 5E `BIT 3,(HL)` (R309). -/
def execCbBit3MemHl (s : State) : Result := .next (testBit 3 .memHl s)

/-- 0xCB 5F `BIT 3,A` (R309). -/
def execCbBit3A (s : State) : Result := .next (testBit 3 (.reg .a) s)

/-- 0xCB 60 `BIT 4,B` (R309). -/
def execCbBit4B (s : State) : Result := .next (testBit 4 (.reg .b) s)

/-- 0xCB 61 `BIT 4,C` (R309). -/
def execCbBit4C (s : State) : Result := .next (testBit 4 (.reg .c) s)

/-- 0xCB 62 `BIT 4,D` (R309). -/
def execCbBit4D (s : State) : Result := .next (testBit 4 (.reg .d) s)

/-- 0xCB 63 `BIT 4,E` (R309). -/
def execCbBit4E (s : State) : Result := .next (testBit 4 (.reg .e) s)

/-- 0xCB 64 `BIT 4,H` (R309). -/
def execCbBit4H (s : State) : Result := .next (testBit 4 (.reg .h) s)

/-- 0xCB 65 `BIT 4,L` (R309). -/
def execCbBit4L (s : State) : Result := .next (testBit 4 (.reg .l) s)

/-- 0xCB 66 `BIT 4,(HL)` (R309). -/
def execCbBit4MemHl (s : State) : Result := .next (testBit 4 .memHl s)

/-- 0xCB 67 `BIT 4,A` (R309). -/
def execCbBit4A (s : State) : Result := .next (testBit 4 (.reg .a) s)

/-- 0xCB 68 `BIT 5,B` (R309). -/
def execCbBit5B (s : State) : Result := .next (testBit 5 (.reg .b) s)

/-- 0xCB 69 `BIT 5,C` (R309). -/
def execCbBit5C (s : State) : Result := .next (testBit 5 (.reg .c) s)

/-- 0xCB 6A `BIT 5,D` (R309). -/
def execCbBit5D (s : State) : Result := .next (testBit 5 (.reg .d) s)

/-- 0xCB 6B `BIT 5,E` (R309). -/
def execCbBit5E (s : State) : Result := .next (testBit 5 (.reg .e) s)

/-- 0xCB 6C `BIT 5,H` (R309). -/
def execCbBit5H (s : State) : Result := .next (testBit 5 (.reg .h) s)

/-- 0xCB 6D `BIT 5,L` (R309). -/
def execCbBit5L (s : State) : Result := .next (testBit 5 (.reg .l) s)

/-- 0xCB 6E `BIT 5,(HL)` (R309). -/
def execCbBit5MemHl (s : State) : Result := .next (testBit 5 .memHl s)

/-- 0xCB 6F `BIT 5,A` (R309). -/
def execCbBit5A (s : State) : Result := .next (testBit 5 (.reg .a) s)

/-- 0xCB 70 `BIT 6,B` (R309). -/
def execCbBit6B (s : State) : Result := .next (testBit 6 (.reg .b) s)

/-- 0xCB 71 `BIT 6,C` (R309). -/
def execCbBit6C (s : State) : Result := .next (testBit 6 (.reg .c) s)

/-- 0xCB 72 `BIT 6,D` (R309). -/
def execCbBit6D (s : State) : Result := .next (testBit 6 (.reg .d) s)

/-- 0xCB 73 `BIT 6,E` (R309). -/
def execCbBit6E (s : State) : Result := .next (testBit 6 (.reg .e) s)

/-- 0xCB 74 `BIT 6,H` (R309). -/
def execCbBit6H (s : State) : Result := .next (testBit 6 (.reg .h) s)

/-- 0xCB 75 `BIT 6,L` (R309). -/
def execCbBit6L (s : State) : Result := .next (testBit 6 (.reg .l) s)

/-- 0xCB 76 `BIT 6,(HL)` (R309). -/
def execCbBit6MemHl (s : State) : Result := .next (testBit 6 .memHl s)

/-- 0xCB 77 `BIT 6,A` (R309). -/
def execCbBit6A (s : State) : Result := .next (testBit 6 (.reg .a) s)

/-- 0xCB 78 `BIT 7,B` (R309). -/
def execCbBit7B (s : State) : Result := .next (testBit 7 (.reg .b) s)

/-- 0xCB 79 `BIT 7,C` (R309). -/
def execCbBit7C (s : State) : Result := .next (testBit 7 (.reg .c) s)

/-- 0xCB 7A `BIT 7,D` (R309). -/
def execCbBit7D (s : State) : Result := .next (testBit 7 (.reg .d) s)

/-- 0xCB 7B `BIT 7,E` (R309). -/
def execCbBit7E (s : State) : Result := .next (testBit 7 (.reg .e) s)

/-- 0xCB 7C `BIT 7,H` (R309). -/
def execCbBit7H (s : State) : Result := .next (testBit 7 (.reg .h) s)

/-- 0xCB 7D `BIT 7,L` (R309). -/
def execCbBit7L (s : State) : Result := .next (testBit 7 (.reg .l) s)

/-- 0xCB 7E `BIT 7,(HL)` (R309). -/
def execCbBit7MemHl (s : State) : Result := .next (testBit 7 .memHl s)

/-- 0xCB 7F `BIT 7,A` (R309). -/
def execCbBit7A (s : State) : Result := .next (testBit 7 (.reg .a) s)

/-- 0xCB 80 `RES 0,B` (R310). -/
def execCbRes0B (s : State) : Result := .next (clearBit 0 (.reg .b) s)

/-- 0xCB 81 `RES 0,C` (R310). -/
def execCbRes0C (s : State) : Result := .next (clearBit 0 (.reg .c) s)

/-- 0xCB 82 `RES 0,D` (R310). -/
def execCbRes0D (s : State) : Result := .next (clearBit 0 (.reg .d) s)

/-- 0xCB 83 `RES 0,E` (R310). -/
def execCbRes0E (s : State) : Result := .next (clearBit 0 (.reg .e) s)

/-- 0xCB 84 `RES 0,H` (R310). -/
def execCbRes0H (s : State) : Result := .next (clearBit 0 (.reg .h) s)

/-- 0xCB 85 `RES 0,L` (R310). -/
def execCbRes0L (s : State) : Result := .next (clearBit 0 (.reg .l) s)

/-- 0xCB 86 `RES 0,(HL)` (R310). -/
def execCbRes0MemHl (s : State) : Result := .next (clearBit 0 .memHl s)

/-- 0xCB 87 `RES 0,A` (R310). -/
def execCbRes0A (s : State) : Result := .next (clearBit 0 (.reg .a) s)

/-- 0xCB 88 `RES 1,B` (R310). -/
def execCbRes1B (s : State) : Result := .next (clearBit 1 (.reg .b) s)

/-- 0xCB 89 `RES 1,C` (R310). -/
def execCbRes1C (s : State) : Result := .next (clearBit 1 (.reg .c) s)

/-- 0xCB 8A `RES 1,D` (R310). -/
def execCbRes1D (s : State) : Result := .next (clearBit 1 (.reg .d) s)

/-- 0xCB 8B `RES 1,E` (R310). -/
def execCbRes1E (s : State) : Result := .next (clearBit 1 (.reg .e) s)

/-- 0xCB 8C `RES 1,H` (R310). -/
def execCbRes1H (s : State) : Result := .next (clearBit 1 (.reg .h) s)

/-- 0xCB 8D `RES 1,L` (R310). -/
def execCbRes1L (s : State) : Result := .next (clearBit 1 (.reg .l) s)

/-- 0xCB 8E `RES 1,(HL)` (R310). -/
def execCbRes1MemHl (s : State) : Result := .next (clearBit 1 .memHl s)

/-- 0xCB 8F `RES 1,A` (R310). -/
def execCbRes1A (s : State) : Result := .next (clearBit 1 (.reg .a) s)

/-- 0xCB 90 `RES 2,B` (R310). -/
def execCbRes2B (s : State) : Result := .next (clearBit 2 (.reg .b) s)

/-- 0xCB 91 `RES 2,C` (R310). -/
def execCbRes2C (s : State) : Result := .next (clearBit 2 (.reg .c) s)

/-- 0xCB 92 `RES 2,D` (R310). -/
def execCbRes2D (s : State) : Result := .next (clearBit 2 (.reg .d) s)

/-- 0xCB 93 `RES 2,E` (R310). -/
def execCbRes2E (s : State) : Result := .next (clearBit 2 (.reg .e) s)

/-- 0xCB 94 `RES 2,H` (R310). -/
def execCbRes2H (s : State) : Result := .next (clearBit 2 (.reg .h) s)

/-- 0xCB 95 `RES 2,L` (R310). -/
def execCbRes2L (s : State) : Result := .next (clearBit 2 (.reg .l) s)

/-- 0xCB 96 `RES 2,(HL)` (R310). -/
def execCbRes2MemHl (s : State) : Result := .next (clearBit 2 .memHl s)

/-- 0xCB 97 `RES 2,A` (R310). -/
def execCbRes2A (s : State) : Result := .next (clearBit 2 (.reg .a) s)

/-- 0xCB 98 `RES 3,B` (R310). -/
def execCbRes3B (s : State) : Result := .next (clearBit 3 (.reg .b) s)

/-- 0xCB 99 `RES 3,C` (R310). -/
def execCbRes3C (s : State) : Result := .next (clearBit 3 (.reg .c) s)

/-- 0xCB 9A `RES 3,D` (R310). -/
def execCbRes3D (s : State) : Result := .next (clearBit 3 (.reg .d) s)

/-- 0xCB 9B `RES 3,E` (R310). -/
def execCbRes3E (s : State) : Result := .next (clearBit 3 (.reg .e) s)

/-- 0xCB 9C `RES 3,H` (R310). -/
def execCbRes3H (s : State) : Result := .next (clearBit 3 (.reg .h) s)

/-- 0xCB 9D `RES 3,L` (R310). -/
def execCbRes3L (s : State) : Result := .next (clearBit 3 (.reg .l) s)

/-- 0xCB 9E `RES 3,(HL)` (R310). -/
def execCbRes3MemHl (s : State) : Result := .next (clearBit 3 .memHl s)

/-- 0xCB 9F `RES 3,A` (R310). -/
def execCbRes3A (s : State) : Result := .next (clearBit 3 (.reg .a) s)

/-- 0xCB A0 `RES 4,B` (R310). -/
def execCbRes4B (s : State) : Result := .next (clearBit 4 (.reg .b) s)

/-- 0xCB A1 `RES 4,C` (R310). -/
def execCbRes4C (s : State) : Result := .next (clearBit 4 (.reg .c) s)

/-- 0xCB A2 `RES 4,D` (R310). -/
def execCbRes4D (s : State) : Result := .next (clearBit 4 (.reg .d) s)

/-- 0xCB A3 `RES 4,E` (R310). -/
def execCbRes4E (s : State) : Result := .next (clearBit 4 (.reg .e) s)

/-- 0xCB A4 `RES 4,H` (R310). -/
def execCbRes4H (s : State) : Result := .next (clearBit 4 (.reg .h) s)

/-- 0xCB A5 `RES 4,L` (R310). -/
def execCbRes4L (s : State) : Result := .next (clearBit 4 (.reg .l) s)

/-- 0xCB A6 `RES 4,(HL)` (R310). -/
def execCbRes4MemHl (s : State) : Result := .next (clearBit 4 .memHl s)

/-- 0xCB A7 `RES 4,A` (R310). -/
def execCbRes4A (s : State) : Result := .next (clearBit 4 (.reg .a) s)

/-- 0xCB A8 `RES 5,B` (R310). -/
def execCbRes5B (s : State) : Result := .next (clearBit 5 (.reg .b) s)

/-- 0xCB A9 `RES 5,C` (R310). -/
def execCbRes5C (s : State) : Result := .next (clearBit 5 (.reg .c) s)

/-- 0xCB AA `RES 5,D` (R310). -/
def execCbRes5D (s : State) : Result := .next (clearBit 5 (.reg .d) s)

/-- 0xCB AB `RES 5,E` (R310). -/
def execCbRes5E (s : State) : Result := .next (clearBit 5 (.reg .e) s)

/-- 0xCB AC `RES 5,H` (R310). -/
def execCbRes5H (s : State) : Result := .next (clearBit 5 (.reg .h) s)

/-- 0xCB AD `RES 5,L` (R310). -/
def execCbRes5L (s : State) : Result := .next (clearBit 5 (.reg .l) s)

/-- 0xCB AE `RES 5,(HL)` (R310). -/
def execCbRes5MemHl (s : State) : Result := .next (clearBit 5 .memHl s)

/-- 0xCB AF `RES 5,A` (R310). -/
def execCbRes5A (s : State) : Result := .next (clearBit 5 (.reg .a) s)

/-- 0xCB B0 `RES 6,B` (R310). -/
def execCbRes6B (s : State) : Result := .next (clearBit 6 (.reg .b) s)

/-- 0xCB B1 `RES 6,C` (R310). -/
def execCbRes6C (s : State) : Result := .next (clearBit 6 (.reg .c) s)

/-- 0xCB B2 `RES 6,D` (R310). -/
def execCbRes6D (s : State) : Result := .next (clearBit 6 (.reg .d) s)

/-- 0xCB B3 `RES 6,E` (R310). -/
def execCbRes6E (s : State) : Result := .next (clearBit 6 (.reg .e) s)

/-- 0xCB B4 `RES 6,H` (R310). -/
def execCbRes6H (s : State) : Result := .next (clearBit 6 (.reg .h) s)

/-- 0xCB B5 `RES 6,L` (R310). -/
def execCbRes6L (s : State) : Result := .next (clearBit 6 (.reg .l) s)

/-- 0xCB B6 `RES 6,(HL)` (R310). -/
def execCbRes6MemHl (s : State) : Result := .next (clearBit 6 .memHl s)

/-- 0xCB B7 `RES 6,A` (R310). -/
def execCbRes6A (s : State) : Result := .next (clearBit 6 (.reg .a) s)

/-- 0xCB B8 `RES 7,B` (R310). -/
def execCbRes7B (s : State) : Result := .next (clearBit 7 (.reg .b) s)

/-- 0xCB B9 `RES 7,C` (R310). -/
def execCbRes7C (s : State) : Result := .next (clearBit 7 (.reg .c) s)

/-- 0xCB BA `RES 7,D` (R310). -/
def execCbRes7D (s : State) : Result := .next (clearBit 7 (.reg .d) s)

/-- 0xCB BB `RES 7,E` (R310). -/
def execCbRes7E (s : State) : Result := .next (clearBit 7 (.reg .e) s)

/-- 0xCB BC `RES 7,H` (R310). -/
def execCbRes7H (s : State) : Result := .next (clearBit 7 (.reg .h) s)

/-- 0xCB BD `RES 7,L` (R310). -/
def execCbRes7L (s : State) : Result := .next (clearBit 7 (.reg .l) s)

/-- 0xCB BE `RES 7,(HL)` (R310). -/
def execCbRes7MemHl (s : State) : Result := .next (clearBit 7 .memHl s)

/-- 0xCB BF `RES 7,A` (R310). -/
def execCbRes7A (s : State) : Result := .next (clearBit 7 (.reg .a) s)

/-- 0xCB C0 `SET 0,B` (R311). -/
def execCbSet0B (s : State) : Result := .next (setBit 0 (.reg .b) s)

/-- 0xCB C1 `SET 0,C` (R311). -/
def execCbSet0C (s : State) : Result := .next (setBit 0 (.reg .c) s)

/-- 0xCB C2 `SET 0,D` (R311). -/
def execCbSet0D (s : State) : Result := .next (setBit 0 (.reg .d) s)

/-- 0xCB C3 `SET 0,E` (R311). -/
def execCbSet0E (s : State) : Result := .next (setBit 0 (.reg .e) s)

/-- 0xCB C4 `SET 0,H` (R311). -/
def execCbSet0H (s : State) : Result := .next (setBit 0 (.reg .h) s)

/-- 0xCB C5 `SET 0,L` (R311). -/
def execCbSet0L (s : State) : Result := .next (setBit 0 (.reg .l) s)

/-- 0xCB C6 `SET 0,(HL)` (R311). -/
def execCbSet0MemHl (s : State) : Result := .next (setBit 0 .memHl s)

/-- 0xCB C7 `SET 0,A` (R311). -/
def execCbSet0A (s : State) : Result := .next (setBit 0 (.reg .a) s)

/-- 0xCB C8 `SET 1,B` (R311). -/
def execCbSet1B (s : State) : Result := .next (setBit 1 (.reg .b) s)

/-- 0xCB C9 `SET 1,C` (R311). -/
def execCbSet1C (s : State) : Result := .next (setBit 1 (.reg .c) s)

/-- 0xCB CA `SET 1,D` (R311). -/
def execCbSet1D (s : State) : Result := .next (setBit 1 (.reg .d) s)

/-- 0xCB CB `SET 1,E` (R311). -/
def execCbSet1E (s : State) : Result := .next (setBit 1 (.reg .e) s)

/-- 0xCB CC `SET 1,H` (R311). -/
def execCbSet1H (s : State) : Result := .next (setBit 1 (.reg .h) s)

/-- 0xCB CD `SET 1,L` (R311). -/
def execCbSet1L (s : State) : Result := .next (setBit 1 (.reg .l) s)

/-- 0xCB CE `SET 1,(HL)` (R311). -/
def execCbSet1MemHl (s : State) : Result := .next (setBit 1 .memHl s)

/-- 0xCB CF `SET 1,A` (R311). -/
def execCbSet1A (s : State) : Result := .next (setBit 1 (.reg .a) s)

/-- 0xCB D0 `SET 2,B` (R311). -/
def execCbSet2B (s : State) : Result := .next (setBit 2 (.reg .b) s)

/-- 0xCB D1 `SET 2,C` (R311). -/
def execCbSet2C (s : State) : Result := .next (setBit 2 (.reg .c) s)

/-- 0xCB D2 `SET 2,D` (R311). -/
def execCbSet2D (s : State) : Result := .next (setBit 2 (.reg .d) s)

/-- 0xCB D3 `SET 2,E` (R311). -/
def execCbSet2E (s : State) : Result := .next (setBit 2 (.reg .e) s)

/-- 0xCB D4 `SET 2,H` (R311). -/
def execCbSet2H (s : State) : Result := .next (setBit 2 (.reg .h) s)

/-- 0xCB D5 `SET 2,L` (R311). -/
def execCbSet2L (s : State) : Result := .next (setBit 2 (.reg .l) s)

/-- 0xCB D6 `SET 2,(HL)` (R311). -/
def execCbSet2MemHl (s : State) : Result := .next (setBit 2 .memHl s)

/-- 0xCB D7 `SET 2,A` (R311). -/
def execCbSet2A (s : State) : Result := .next (setBit 2 (.reg .a) s)

/-- 0xCB D8 `SET 3,B` (R311). -/
def execCbSet3B (s : State) : Result := .next (setBit 3 (.reg .b) s)

/-- 0xCB D9 `SET 3,C` (R311). -/
def execCbSet3C (s : State) : Result := .next (setBit 3 (.reg .c) s)

/-- 0xCB DA `SET 3,D` (R311). -/
def execCbSet3D (s : State) : Result := .next (setBit 3 (.reg .d) s)

/-- 0xCB DB `SET 3,E` (R311). -/
def execCbSet3E (s : State) : Result := .next (setBit 3 (.reg .e) s)

/-- 0xCB DC `SET 3,H` (R311). -/
def execCbSet3H (s : State) : Result := .next (setBit 3 (.reg .h) s)

/-- 0xCB DD `SET 3,L` (R311). -/
def execCbSet3L (s : State) : Result := .next (setBit 3 (.reg .l) s)

/-- 0xCB DE `SET 3,(HL)` (R311). -/
def execCbSet3MemHl (s : State) : Result := .next (setBit 3 .memHl s)

/-- 0xCB DF `SET 3,A` (R311). -/
def execCbSet3A (s : State) : Result := .next (setBit 3 (.reg .a) s)

/-- 0xCB E0 `SET 4,B` (R311). -/
def execCbSet4B (s : State) : Result := .next (setBit 4 (.reg .b) s)

/-- 0xCB E1 `SET 4,C` (R311). -/
def execCbSet4C (s : State) : Result := .next (setBit 4 (.reg .c) s)

/-- 0xCB E2 `SET 4,D` (R311). -/
def execCbSet4D (s : State) : Result := .next (setBit 4 (.reg .d) s)

/-- 0xCB E3 `SET 4,E` (R311). -/
def execCbSet4E (s : State) : Result := .next (setBit 4 (.reg .e) s)

/-- 0xCB E4 `SET 4,H` (R311). -/
def execCbSet4H (s : State) : Result := .next (setBit 4 (.reg .h) s)

/-- 0xCB E5 `SET 4,L` (R311). -/
def execCbSet4L (s : State) : Result := .next (setBit 4 (.reg .l) s)

/-- 0xCB E6 `SET 4,(HL)` (R311). -/
def execCbSet4MemHl (s : State) : Result := .next (setBit 4 .memHl s)

/-- 0xCB E7 `SET 4,A` (R311). -/
def execCbSet4A (s : State) : Result := .next (setBit 4 (.reg .a) s)

/-- 0xCB E8 `SET 5,B` (R311). -/
def execCbSet5B (s : State) : Result := .next (setBit 5 (.reg .b) s)

/-- 0xCB E9 `SET 5,C` (R311). -/
def execCbSet5C (s : State) : Result := .next (setBit 5 (.reg .c) s)

/-- 0xCB EA `SET 5,D` (R311). -/
def execCbSet5D (s : State) : Result := .next (setBit 5 (.reg .d) s)

/-- 0xCB EB `SET 5,E` (R311). -/
def execCbSet5E (s : State) : Result := .next (setBit 5 (.reg .e) s)

/-- 0xCB EC `SET 5,H` (R311). -/
def execCbSet5H (s : State) : Result := .next (setBit 5 (.reg .h) s)

/-- 0xCB ED `SET 5,L` (R311). -/
def execCbSet5L (s : State) : Result := .next (setBit 5 (.reg .l) s)

/-- 0xCB EE `SET 5,(HL)` (R311). -/
def execCbSet5MemHl (s : State) : Result := .next (setBit 5 .memHl s)

/-- 0xCB EF `SET 5,A` (R311). -/
def execCbSet5A (s : State) : Result := .next (setBit 5 (.reg .a) s)

/-- 0xCB F0 `SET 6,B` (R311). -/
def execCbSet6B (s : State) : Result := .next (setBit 6 (.reg .b) s)

/-- 0xCB F1 `SET 6,C` (R311). -/
def execCbSet6C (s : State) : Result := .next (setBit 6 (.reg .c) s)

/-- 0xCB F2 `SET 6,D` (R311). -/
def execCbSet6D (s : State) : Result := .next (setBit 6 (.reg .d) s)

/-- 0xCB F3 `SET 6,E` (R311). -/
def execCbSet6E (s : State) : Result := .next (setBit 6 (.reg .e) s)

/-- 0xCB F4 `SET 6,H` (R311). -/
def execCbSet6H (s : State) : Result := .next (setBit 6 (.reg .h) s)

/-- 0xCB F5 `SET 6,L` (R311). -/
def execCbSet6L (s : State) : Result := .next (setBit 6 (.reg .l) s)

/-- 0xCB F6 `SET 6,(HL)` (R311). -/
def execCbSet6MemHl (s : State) : Result := .next (setBit 6 .memHl s)

/-- 0xCB F7 `SET 6,A` (R311). -/
def execCbSet6A (s : State) : Result := .next (setBit 6 (.reg .a) s)

/-- 0xCB F8 `SET 7,B` (R311). -/
def execCbSet7B (s : State) : Result := .next (setBit 7 (.reg .b) s)

/-- 0xCB F9 `SET 7,C` (R311). -/
def execCbSet7C (s : State) : Result := .next (setBit 7 (.reg .c) s)

/-- 0xCB FA `SET 7,D` (R311). -/
def execCbSet7D (s : State) : Result := .next (setBit 7 (.reg .d) s)

/-- 0xCB FB `SET 7,E` (R311). -/
def execCbSet7E (s : State) : Result := .next (setBit 7 (.reg .e) s)

/-- 0xCB FC `SET 7,H` (R311). -/
def execCbSet7H (s : State) : Result := .next (setBit 7 (.reg .h) s)

/-- 0xCB FD `SET 7,L` (R311). -/
def execCbSet7L (s : State) : Result := .next (setBit 7 (.reg .l) s)

/-- 0xCB FE `SET 7,(HL)` (R311). -/
def execCbSet7MemHl (s : State) : Result := .next (setBit 7 .memHl s)

/-- 0xCB FF `SET 7,A` (R311). -/
def execCbSet7A (s : State) : Result := .next (setBit 7 (.reg .a) s)

end Sys2Proof.Machine
end

