-- ==== Sys2Proof/Machine/Load16.lean ====
section
/-! DEFINITION. 16-bit loads and the stack (41_load16.md R230 to R237): the shared forms, then one meaning for each
instruction. -/

namespace Sys2Proof.Machine

/-- `LD rr,nn` (R230). -/
def ldPairImm (r : Reg16) (nn : Addr) (s : State) : State := (s.fetched 3).setPair r nn

/-- `LD (nn),SP` (R231): the low byte at nn, then the high byte at nn + 1. -/
def ldAbsSp (nn : Addr) (s : State) : State := ((s.fetched 3).write nn (lo8 s.sp)).write (nn + 1) (hi8 s.sp)

/-- `LD SP,HL` (R232). -/
def ldSpFromHl (s : State) : State := (s.fetched 1).setSp s.hl

/-- `LD HL,SP+e` (R233). -/
def ldHlFromSp (e : Byte) (s : State) : State :=
  let r := addSpDisplacement s.sp e
  ((s.fetched 2).setHl r.1).setFlags r.2

/-- `PUSH rr` (R236). -/
def pushPair (r : StackReg) (s : State) : State := (s.fetched 1).push16 (s.stackPair r)

/-- `POP rr` (R237). -/
def popPair (r : StackReg) (s : State) : State := (s.fetched 1).popped.setStackPair r s.popValue

/-! ### The instructions -/

/-- 0x01 `LD BC,nn` (R230). -/
def execLdBcNn (nn : Addr) (s : State) : Result := .next (ldPairImm .bc nn s)

/-- 0x08 `LD (nn),SP` (R231). -/
def execLdMemNnSp (nn : Addr) (s : State) : Result := .next (ldAbsSp nn s)

/-- 0x11 `LD DE,nn` (R230). -/
def execLdDeNn (nn : Addr) (s : State) : Result := .next (ldPairImm .de nn s)

/-- 0x21 `LD HL,nn` (R230). -/
def execLdHlNn (nn : Addr) (s : State) : Result := .next (ldPairImm .hl nn s)

/-- 0x31 `LD SP,nn` (R230). -/
def execLdSpNn (nn : Addr) (s : State) : Result := .next (ldPairImm .sp nn s)

/-- 0xC1 `POP BC` (R237). -/
def execPopBc (s : State) : Result := .next (popPair .bc s)

/-- 0xC5 `PUSH BC` (R236). -/
def execPushBc (s : State) : Result := .next (pushPair .bc s)

/-- 0xD1 `POP DE` (R237). -/
def execPopDe (s : State) : Result := .next (popPair .de s)

/-- 0xD5 `PUSH DE` (R236). -/
def execPushDe (s : State) : Result := .next (pushPair .de s)

/-- 0xE1 `POP HL` (R237). -/
def execPopHl (s : State) : Result := .next (popPair .hl s)

/-- 0xE5 `PUSH HL` (R236). -/
def execPushHl (s : State) : Result := .next (pushPair .hl s)

/-- 0xF1 `POP AF` (R237). -/
def execPopAf (s : State) : Result := .next (popPair .af s)

/-- 0xF5 `PUSH AF` (R236). -/
def execPushAf (s : State) : Result := .next (pushPair .af s)

/-- 0xF8 `LD HL,SP+e` (R233). -/
def execLdHlSpE (e : Byte) (s : State) : Result := .next (ldHlFromSp e s)

/-- 0xF9 `LD SP,HL` (R232). -/
def execLdSpHl (s : State) : Result := .next (ldSpFromHl s)

end Sys2Proof.Machine
end

