-- ==== Sys2Proof/Machine/Load8.lean ====
section
/-! DEFINITION. 8-bit loads (40_load8.md R200 to R218): the shared forms, then one meaning for each instruction. -/

namespace Sys2Proof.Machine

/-- `LD r,r'` (R200). -/
def ldRegReg (d r : Reg8) (s : State) : State := (s.fetched 1).setReg d (s.reg r)

/-- `LD r,n` (R201). -/
def ldRegImm (r : Reg8) (n : Byte) (s : State) : State := (s.fetched 2).setReg r n

/-- `LD r,(HL)` (R202). -/
def ldRegMemHl (r : Reg8) (s : State) : State := (s.fetched 1).setReg r (s.read s.hl)

/-- `LD (HL),r` (R203). -/
def ldMemHlReg (r : Reg8) (s : State) : State := (s.fetched 1).write s.hl (s.reg r)

/-- `LD (HL),n` (R204). -/
def ldMemHlImm (n : Byte) (s : State) : State := (s.fetched 2).write s.hl n

/-- `LD A,(BC)` and `LD A,(DE)` (R205, R206). -/
def ldAPointer (p : Pointer) (s : State) : State := (s.fetched 1).setReg .a (s.read (s.pointer p))

/-- `LD (BC),A` and `LD (DE),A` (R207, R208). -/
def ldPointerA (p : Pointer) (s : State) : State := (s.fetched 1).write (s.pointer p) (s.reg .a)

/-- `LD A,(nn)` (R209). -/
def ldAAbs (nn : Addr) (s : State) : State := (s.fetched 3).setReg .a (s.read nn)

/-- `LD (nn),A` (R210). -/
def ldAbsA (nn : Addr) (s : State) : State := (s.fetched 3).write nn (s.reg .a)

/-- `LD A,(HL+)` and `LD A,(HL-)` (R211, R212): the address is HL before it moves. -/
def ldAHlStep (m : HlStep) (s : State) : State := ((s.fetched 1).setReg .a (s.read s.hl)).stepHl m

/-- `LD (HL+),A` and `LD (HL-),A` (R217, R218): the address is HL before it moves. -/
def ldHlStepA (m : HlStep) (s : State) : State := ((s.fetched 1).write s.hl (s.reg .a)).stepHl m

/-- `LDH A,(C)` (R213). -/
def ldhAC (s : State) : State := (s.fetched 1).setReg .a (s.read (highPage (s.reg .c)))

/-- `LDH (C),A` (R214). -/
def ldhCA (s : State) : State := (s.fetched 1).write (highPage (s.reg .c)) (s.reg .a)

/-- `LDH A,(n)` (R215). -/
def ldhAImm (n : Byte) (s : State) : State := (s.fetched 2).setReg .a (s.read (highPage n))

/-- `LDH (n),A` (R216). -/
def ldhImmA (n : Byte) (s : State) : State := (s.fetched 2).write (highPage n) (s.reg .a)

/-! ### The instructions -/

/-- 0x02 `LD (BC),A` (R207). -/
def execLdMemBcA (s : State) : Result := .next (ldPointerA .bc s)

/-- 0x06 `LD B,n` (R201). -/
def execLdBN (n : Byte) (s : State) : Result := .next (ldRegImm .b n s)

/-- 0x0A `LD A,(BC)` (R205). -/
def execLdAMemBc (s : State) : Result := .next (ldAPointer .bc s)

/-- 0x0E `LD C,n` (R201). -/
def execLdCN (n : Byte) (s : State) : Result := .next (ldRegImm .c n s)

/-- 0x12 `LD (DE),A` (R208). -/
def execLdMemDeA (s : State) : Result := .next (ldPointerA .de s)

/-- 0x16 `LD D,n` (R201). -/
def execLdDN (n : Byte) (s : State) : Result := .next (ldRegImm .d n s)

/-- 0x1A `LD A,(DE)` (R206). -/
def execLdAMemDe (s : State) : Result := .next (ldAPointer .de s)

/-- 0x1E `LD E,n` (R201). -/
def execLdEN (n : Byte) (s : State) : Result := .next (ldRegImm .e n s)

/-- 0x22 `LD (HL+),A` (R217). -/
def execLdMemHlIncA (s : State) : Result := .next (ldHlStepA .inc s)

/-- 0x26 `LD H,n` (R201). -/
def execLdHN (n : Byte) (s : State) : Result := .next (ldRegImm .h n s)

/-- 0x2A `LD A,(HL+)` (R211). -/
def execLdAMemHlInc (s : State) : Result := .next (ldAHlStep .inc s)

/-- 0x2E `LD L,n` (R201). -/
def execLdLN (n : Byte) (s : State) : Result := .next (ldRegImm .l n s)

/-- 0x32 `LD (HL-),A` (R218). -/
def execLdMemHlDecA (s : State) : Result := .next (ldHlStepA .dec s)

/-- 0x36 `LD (HL),n` (R204). -/
def execLdMemHlN (n : Byte) (s : State) : Result := .next (ldMemHlImm n s)

/-- 0x3A `LD A,(HL-)` (R212). -/
def execLdAMemHlDec (s : State) : Result := .next (ldAHlStep .dec s)

/-- 0x3E `LD A,n` (R201). -/
def execLdAN (n : Byte) (s : State) : Result := .next (ldRegImm .a n s)

/-- 0x40 `LD B,B` (R200). -/
def execLdBB (s : State) : Result := .next (ldRegReg .b .b s)

/-- 0x41 `LD B,C` (R200). -/
def execLdBC (s : State) : Result := .next (ldRegReg .b .c s)

/-- 0x42 `LD B,D` (R200). -/
def execLdBD (s : State) : Result := .next (ldRegReg .b .d s)

/-- 0x43 `LD B,E` (R200). -/
def execLdBE (s : State) : Result := .next (ldRegReg .b .e s)

/-- 0x44 `LD B,H` (R200). -/
def execLdBH (s : State) : Result := .next (ldRegReg .b .h s)

/-- 0x45 `LD B,L` (R200). -/
def execLdBL (s : State) : Result := .next (ldRegReg .b .l s)

/-- 0x46 `LD B,(HL)` (R202). -/
def execLdBMemHl (s : State) : Result := .next (ldRegMemHl .b s)

/-- 0x47 `LD B,A` (R200). -/
def execLdBA (s : State) : Result := .next (ldRegReg .b .a s)

/-- 0x48 `LD C,B` (R200). -/
def execLdCB (s : State) : Result := .next (ldRegReg .c .b s)

/-- 0x49 `LD C,C` (R200). -/
def execLdCC (s : State) : Result := .next (ldRegReg .c .c s)

/-- 0x4A `LD C,D` (R200). -/
def execLdCD (s : State) : Result := .next (ldRegReg .c .d s)

/-- 0x4B `LD C,E` (R200). -/
def execLdCE (s : State) : Result := .next (ldRegReg .c .e s)

/-- 0x4C `LD C,H` (R200). -/
def execLdCH (s : State) : Result := .next (ldRegReg .c .h s)

/-- 0x4D `LD C,L` (R200). -/
def execLdCL (s : State) : Result := .next (ldRegReg .c .l s)

/-- 0x4E `LD C,(HL)` (R202). -/
def execLdCMemHl (s : State) : Result := .next (ldRegMemHl .c s)

/-- 0x4F `LD C,A` (R200). -/
def execLdCA (s : State) : Result := .next (ldRegReg .c .a s)

/-- 0x50 `LD D,B` (R200). -/
def execLdDB (s : State) : Result := .next (ldRegReg .d .b s)

/-- 0x51 `LD D,C` (R200). -/
def execLdDC (s : State) : Result := .next (ldRegReg .d .c s)

/-- 0x52 `LD D,D` (R200). -/
def execLdDD (s : State) : Result := .next (ldRegReg .d .d s)

/-- 0x53 `LD D,E` (R200). -/
def execLdDE (s : State) : Result := .next (ldRegReg .d .e s)

/-- 0x54 `LD D,H` (R200). -/
def execLdDH (s : State) : Result := .next (ldRegReg .d .h s)

/-- 0x55 `LD D,L` (R200). -/
def execLdDL (s : State) : Result := .next (ldRegReg .d .l s)

/-- 0x56 `LD D,(HL)` (R202). -/
def execLdDMemHl (s : State) : Result := .next (ldRegMemHl .d s)

/-- 0x57 `LD D,A` (R200). -/
def execLdDA (s : State) : Result := .next (ldRegReg .d .a s)

/-- 0x58 `LD E,B` (R200). -/
def execLdEB (s : State) : Result := .next (ldRegReg .e .b s)

/-- 0x59 `LD E,C` (R200). -/
def execLdEC (s : State) : Result := .next (ldRegReg .e .c s)

/-- 0x5A `LD E,D` (R200). -/
def execLdED (s : State) : Result := .next (ldRegReg .e .d s)

/-- 0x5B `LD E,E` (R200). -/
def execLdEE (s : State) : Result := .next (ldRegReg .e .e s)

/-- 0x5C `LD E,H` (R200). -/
def execLdEH (s : State) : Result := .next (ldRegReg .e .h s)

/-- 0x5D `LD E,L` (R200). -/
def execLdEL (s : State) : Result := .next (ldRegReg .e .l s)

/-- 0x5E `LD E,(HL)` (R202). -/
def execLdEMemHl (s : State) : Result := .next (ldRegMemHl .e s)

/-- 0x5F `LD E,A` (R200). -/
def execLdEA (s : State) : Result := .next (ldRegReg .e .a s)

/-- 0x60 `LD H,B` (R200). -/
def execLdHB (s : State) : Result := .next (ldRegReg .h .b s)

/-- 0x61 `LD H,C` (R200). -/
def execLdHC (s : State) : Result := .next (ldRegReg .h .c s)

/-- 0x62 `LD H,D` (R200). -/
def execLdHD (s : State) : Result := .next (ldRegReg .h .d s)

/-- 0x63 `LD H,E` (R200). -/
def execLdHE (s : State) : Result := .next (ldRegReg .h .e s)

/-- 0x64 `LD H,H` (R200). -/
def execLdHH (s : State) : Result := .next (ldRegReg .h .h s)

/-- 0x65 `LD H,L` (R200). -/
def execLdHL (s : State) : Result := .next (ldRegReg .h .l s)

/-- 0x66 `LD H,(HL)` (R202). -/
def execLdHMemHl (s : State) : Result := .next (ldRegMemHl .h s)

/-- 0x67 `LD H,A` (R200). -/
def execLdHA (s : State) : Result := .next (ldRegReg .h .a s)

/-- 0x68 `LD L,B` (R200). -/
def execLdLB (s : State) : Result := .next (ldRegReg .l .b s)

/-- 0x69 `LD L,C` (R200). -/
def execLdLC (s : State) : Result := .next (ldRegReg .l .c s)

/-- 0x6A `LD L,D` (R200). -/
def execLdLD (s : State) : Result := .next (ldRegReg .l .d s)

/-- 0x6B `LD L,E` (R200). -/
def execLdLE (s : State) : Result := .next (ldRegReg .l .e s)

/-- 0x6C `LD L,H` (R200). -/
def execLdLH (s : State) : Result := .next (ldRegReg .l .h s)

/-- 0x6D `LD L,L` (R200). -/
def execLdLL (s : State) : Result := .next (ldRegReg .l .l s)

/-- 0x6E `LD L,(HL)` (R202). -/
def execLdLMemHl (s : State) : Result := .next (ldRegMemHl .l s)

/-- 0x6F `LD L,A` (R200). -/
def execLdLA (s : State) : Result := .next (ldRegReg .l .a s)

/-- 0x70 `LD (HL),B` (R203). -/
def execLdMemHlB (s : State) : Result := .next (ldMemHlReg .b s)

/-- 0x71 `LD (HL),C` (R203). -/
def execLdMemHlC (s : State) : Result := .next (ldMemHlReg .c s)

/-- 0x72 `LD (HL),D` (R203). -/
def execLdMemHlD (s : State) : Result := .next (ldMemHlReg .d s)

/-- 0x73 `LD (HL),E` (R203). -/
def execLdMemHlE (s : State) : Result := .next (ldMemHlReg .e s)

/-- 0x74 `LD (HL),H` (R203). -/
def execLdMemHlH (s : State) : Result := .next (ldMemHlReg .h s)

/-- 0x75 `LD (HL),L` (R203). -/
def execLdMemHlL (s : State) : Result := .next (ldMemHlReg .l s)

/-- 0x77 `LD (HL),A` (R203). -/
def execLdMemHlA (s : State) : Result := .next (ldMemHlReg .a s)

/-- 0x78 `LD A,B` (R200). -/
def execLdAB (s : State) : Result := .next (ldRegReg .a .b s)

/-- 0x79 `LD A,C` (R200). -/
def execLdAC (s : State) : Result := .next (ldRegReg .a .c s)

/-- 0x7A `LD A,D` (R200). -/
def execLdAD (s : State) : Result := .next (ldRegReg .a .d s)

/-- 0x7B `LD A,E` (R200). -/
def execLdAE (s : State) : Result := .next (ldRegReg .a .e s)

/-- 0x7C `LD A,H` (R200). -/
def execLdAH (s : State) : Result := .next (ldRegReg .a .h s)

/-- 0x7D `LD A,L` (R200). -/
def execLdAL (s : State) : Result := .next (ldRegReg .a .l s)

/-- 0x7E `LD A,(HL)` (R202). -/
def execLdAMemHl (s : State) : Result := .next (ldRegMemHl .a s)

/-- 0x7F `LD A,A` (R200). -/
def execLdAA (s : State) : Result := .next (ldRegReg .a .a s)

/-- 0xE0 `LDH (n),A` (R216). -/
def execLdhMemNA (n : Byte) (s : State) : Result := .next (ldhImmA n s)

/-- 0xE2 `LDH (C),A` (R214). -/
def execLdhMemCA (s : State) : Result := .next (ldhCA s)

/-- 0xEA `LD (nn),A` (R210). -/
def execLdMemNnA (nn : Addr) (s : State) : Result := .next (ldAbsA nn s)

/-- 0xF0 `LDH A,(n)` (R215). -/
def execLdhAMemN (n : Byte) (s : State) : Result := .next (ldhAImm n s)

/-- 0xF2 `LDH A,(C)` (R213). -/
def execLdhAMemC (s : State) : Result := .next (ldhAC s)

/-- 0xFA `LD A,(nn)` (R209). -/
def execLdAMemNn (nn : Addr) (s : State) : Result := .next (ldAAbs nn s)

end Sys2Proof.Machine
end

