-- ==== Sys2Proof/Machine/Alu8.lean ====
section
/-! DEFINITION. 8-bit arithmetic and logic (42_alu8.md R250 to R278): the shared forms, then one meaning for each
instruction. -/

namespace Sys2Proof.Machine

/-- Write A and the flags. -/
def State.setAccumulator (s : State) (r : AluResult) : State := (s.setReg .a r.res).setFlags r.flags

/-- An accumulator operation on a register or the byte at HL (R251 to R273). -/
def aluOperand (op : AluOp) (x : Operand8) (s : State) : State :=
  (s.fetched 1).setAccumulator (alu8 op (s.reg .a) (s.readOperand x) s.flags.c)

/-- An accumulator operation on an immediate (R253 to R274). -/
def aluImm (op : AluOp) (n : Byte) (s : State) : State :=
  (s.fetched 2).setAccumulator (alu8 op (s.reg .a) n s.flags.c)

/-- `INC r` and `INC (HL)` (R275, R276): C is not written. -/
def incOperand (x : Operand8) (s : State) : State :=
  let r := inc8 (s.readOperand x) s.flags.c
  ((s.fetched 1).writeOperand x r.res).setFlags r.flags

/-- `DEC r` and `DEC (HL)` (R277, R278): C is not written. -/
def decOperand (x : Operand8) (s : State) : State :=
  let r := dec8 (s.readOperand x) s.flags.c
  ((s.fetched 1).writeOperand x r.res).setFlags r.flags

/-! ### The instructions -/

/-- 0x04 `INC B` (R275). -/
def execIncB (s : State) : Result := .next (incOperand (.reg .b) s)

/-- 0x05 `DEC B` (R277). -/
def execDecB (s : State) : Result := .next (decOperand (.reg .b) s)

/-- 0x0C `INC C` (R275). -/
def execIncC (s : State) : Result := .next (incOperand (.reg .c) s)

/-- 0x0D `DEC C` (R277). -/
def execDecC (s : State) : Result := .next (decOperand (.reg .c) s)

/-- 0x14 `INC D` (R275). -/
def execIncD (s : State) : Result := .next (incOperand (.reg .d) s)

/-- 0x15 `DEC D` (R277). -/
def execDecD (s : State) : Result := .next (decOperand (.reg .d) s)

/-- 0x1C `INC E` (R275). -/
def execIncE (s : State) : Result := .next (incOperand (.reg .e) s)

/-- 0x1D `DEC E` (R277). -/
def execDecE (s : State) : Result := .next (decOperand (.reg .e) s)

/-- 0x24 `INC H` (R275). -/
def execIncH (s : State) : Result := .next (incOperand (.reg .h) s)

/-- 0x25 `DEC H` (R277). -/
def execDecH (s : State) : Result := .next (decOperand (.reg .h) s)

/-- 0x2C `INC L` (R275). -/
def execIncL (s : State) : Result := .next (incOperand (.reg .l) s)

/-- 0x2D `DEC L` (R277). -/
def execDecL (s : State) : Result := .next (decOperand (.reg .l) s)

/-- 0x34 `INC (HL)` (R276). -/
def execIncMemHl (s : State) : Result := .next (incOperand .memHl s)

/-- 0x35 `DEC (HL)` (R278). -/
def execDecMemHl (s : State) : Result := .next (decOperand .memHl s)

/-- 0x3C `INC A` (R275). -/
def execIncA (s : State) : Result := .next (incOperand (.reg .a) s)

/-- 0x3D `DEC A` (R277). -/
def execDecA (s : State) : Result := .next (decOperand (.reg .a) s)

/-- 0x80 `ADD A,B` (R251). -/
def execAddAB (s : State) : Result := .next (aluOperand .add (.reg .b) s)

/-- 0x81 `ADD A,C` (R251). -/
def execAddAC (s : State) : Result := .next (aluOperand .add (.reg .c) s)

/-- 0x82 `ADD A,D` (R251). -/
def execAddAD (s : State) : Result := .next (aluOperand .add (.reg .d) s)

/-- 0x83 `ADD A,E` (R251). -/
def execAddAE (s : State) : Result := .next (aluOperand .add (.reg .e) s)

/-- 0x84 `ADD A,H` (R251). -/
def execAddAH (s : State) : Result := .next (aluOperand .add (.reg .h) s)

/-- 0x85 `ADD A,L` (R251). -/
def execAddAL (s : State) : Result := .next (aluOperand .add (.reg .l) s)

/-- 0x86 `ADD A,(HL)` (R252). -/
def execAddAMemHl (s : State) : Result := .next (aluOperand .add .memHl s)

/-- 0x87 `ADD A,A` (R251). -/
def execAddAA (s : State) : Result := .next (aluOperand .add (.reg .a) s)

/-- 0x88 `ADC A,B` (R254). -/
def execAdcAB (s : State) : Result := .next (aluOperand .adc (.reg .b) s)

/-- 0x89 `ADC A,C` (R254). -/
def execAdcAC (s : State) : Result := .next (aluOperand .adc (.reg .c) s)

/-- 0x8A `ADC A,D` (R254). -/
def execAdcAD (s : State) : Result := .next (aluOperand .adc (.reg .d) s)

/-- 0x8B `ADC A,E` (R254). -/
def execAdcAE (s : State) : Result := .next (aluOperand .adc (.reg .e) s)

/-- 0x8C `ADC A,H` (R254). -/
def execAdcAH (s : State) : Result := .next (aluOperand .adc (.reg .h) s)

/-- 0x8D `ADC A,L` (R254). -/
def execAdcAL (s : State) : Result := .next (aluOperand .adc (.reg .l) s)

/-- 0x8E `ADC A,(HL)` (R255). -/
def execAdcAMemHl (s : State) : Result := .next (aluOperand .adc .memHl s)

/-- 0x8F `ADC A,A` (R254). -/
def execAdcAA (s : State) : Result := .next (aluOperand .adc (.reg .a) s)

/-- 0x90 `SUB B` (R257). -/
def execSubB (s : State) : Result := .next (aluOperand .sub (.reg .b) s)

/-- 0x91 `SUB C` (R257). -/
def execSubC (s : State) : Result := .next (aluOperand .sub (.reg .c) s)

/-- 0x92 `SUB D` (R257). -/
def execSubD (s : State) : Result := .next (aluOperand .sub (.reg .d) s)

/-- 0x93 `SUB E` (R257). -/
def execSubE (s : State) : Result := .next (aluOperand .sub (.reg .e) s)

/-- 0x94 `SUB H` (R257). -/
def execSubH (s : State) : Result := .next (aluOperand .sub (.reg .h) s)

/-- 0x95 `SUB L` (R257). -/
def execSubL (s : State) : Result := .next (aluOperand .sub (.reg .l) s)

/-- 0x96 `SUB (HL)` (R258). -/
def execSubMemHl (s : State) : Result := .next (aluOperand .sub .memHl s)

/-- 0x97 `SUB A` (R257). -/
def execSubA (s : State) : Result := .next (aluOperand .sub (.reg .a) s)

/-- 0x98 `SBC A,B` (R260). -/
def execSbcAB (s : State) : Result := .next (aluOperand .sbc (.reg .b) s)

/-- 0x99 `SBC A,C` (R260). -/
def execSbcAC (s : State) : Result := .next (aluOperand .sbc (.reg .c) s)

/-- 0x9A `SBC A,D` (R260). -/
def execSbcAD (s : State) : Result := .next (aluOperand .sbc (.reg .d) s)

/-- 0x9B `SBC A,E` (R260). -/
def execSbcAE (s : State) : Result := .next (aluOperand .sbc (.reg .e) s)

/-- 0x9C `SBC A,H` (R260). -/
def execSbcAH (s : State) : Result := .next (aluOperand .sbc (.reg .h) s)

/-- 0x9D `SBC A,L` (R260). -/
def execSbcAL (s : State) : Result := .next (aluOperand .sbc (.reg .l) s)

/-- 0x9E `SBC A,(HL)` (R261). -/
def execSbcAMemHl (s : State) : Result := .next (aluOperand .sbc .memHl s)

/-- 0x9F `SBC A,A` (R260). -/
def execSbcAA (s : State) : Result := .next (aluOperand .sbc (.reg .a) s)

/-- 0xA0 `AND B` (R263). -/
def execAndB (s : State) : Result := .next (aluOperand .and (.reg .b) s)

/-- 0xA1 `AND C` (R263). -/
def execAndC (s : State) : Result := .next (aluOperand .and (.reg .c) s)

/-- 0xA2 `AND D` (R263). -/
def execAndD (s : State) : Result := .next (aluOperand .and (.reg .d) s)

/-- 0xA3 `AND E` (R263). -/
def execAndE (s : State) : Result := .next (aluOperand .and (.reg .e) s)

/-- 0xA4 `AND H` (R263). -/
def execAndH (s : State) : Result := .next (aluOperand .and (.reg .h) s)

/-- 0xA5 `AND L` (R263). -/
def execAndL (s : State) : Result := .next (aluOperand .and (.reg .l) s)

/-- 0xA6 `AND (HL)` (R264). -/
def execAndMemHl (s : State) : Result := .next (aluOperand .and .memHl s)

/-- 0xA7 `AND A` (R263). -/
def execAndA (s : State) : Result := .next (aluOperand .and (.reg .a) s)

/-- 0xA8 `XOR B` (R266). -/
def execXorB (s : State) : Result := .next (aluOperand .xor (.reg .b) s)

/-- 0xA9 `XOR C` (R266). -/
def execXorC (s : State) : Result := .next (aluOperand .xor (.reg .c) s)

/-- 0xAA `XOR D` (R266). -/
def execXorD (s : State) : Result := .next (aluOperand .xor (.reg .d) s)

/-- 0xAB `XOR E` (R266). -/
def execXorE (s : State) : Result := .next (aluOperand .xor (.reg .e) s)

/-- 0xAC `XOR H` (R266). -/
def execXorH (s : State) : Result := .next (aluOperand .xor (.reg .h) s)

/-- 0xAD `XOR L` (R266). -/
def execXorL (s : State) : Result := .next (aluOperand .xor (.reg .l) s)

/-- 0xAE `XOR (HL)` (R267). -/
def execXorMemHl (s : State) : Result := .next (aluOperand .xor .memHl s)

/-- 0xAF `XOR A` (R266). -/
def execXorA (s : State) : Result := .next (aluOperand .xor (.reg .a) s)

/-- 0xB0 `OR B` (R269). -/
def execOrB (s : State) : Result := .next (aluOperand .or (.reg .b) s)

/-- 0xB1 `OR C` (R269). -/
def execOrC (s : State) : Result := .next (aluOperand .or (.reg .c) s)

/-- 0xB2 `OR D` (R269). -/
def execOrD (s : State) : Result := .next (aluOperand .or (.reg .d) s)

/-- 0xB3 `OR E` (R269). -/
def execOrE (s : State) : Result := .next (aluOperand .or (.reg .e) s)

/-- 0xB4 `OR H` (R269). -/
def execOrH (s : State) : Result := .next (aluOperand .or (.reg .h) s)

/-- 0xB5 `OR L` (R269). -/
def execOrL (s : State) : Result := .next (aluOperand .or (.reg .l) s)

/-- 0xB6 `OR (HL)` (R270). -/
def execOrMemHl (s : State) : Result := .next (aluOperand .or .memHl s)

/-- 0xB7 `OR A` (R269). -/
def execOrA (s : State) : Result := .next (aluOperand .or (.reg .a) s)

/-- 0xB8 `CP B` (R272). -/
def execCpAB (s : State) : Result := .next (aluOperand .cp (.reg .b) s)

/-- 0xB9 `CP C` (R272). -/
def execCpAC (s : State) : Result := .next (aluOperand .cp (.reg .c) s)

/-- 0xBA `CP D` (R272). -/
def execCpAD (s : State) : Result := .next (aluOperand .cp (.reg .d) s)

/-- 0xBB `CP E` (R272). -/
def execCpAE (s : State) : Result := .next (aluOperand .cp (.reg .e) s)

/-- 0xBC `CP H` (R272). -/
def execCpAH (s : State) : Result := .next (aluOperand .cp (.reg .h) s)

/-- 0xBD `CP L` (R272). -/
def execCpAL (s : State) : Result := .next (aluOperand .cp (.reg .l) s)

/-- 0xBE `CP (HL)` (R273). -/
def execCpAMemHl (s : State) : Result := .next (aluOperand .cp .memHl s)

/-- 0xBF `CP A` (R272). -/
def execCpAA (s : State) : Result := .next (aluOperand .cp (.reg .a) s)

/-- 0xC6 `ADD A,n` (R253). -/
def execAddAN (n : Byte) (s : State) : Result := .next (aluImm .add n s)

/-- 0xCE `ADC A,n` (R256). -/
def execAdcAN (n : Byte) (s : State) : Result := .next (aluImm .adc n s)

/-- 0xD6 `SUB n` (R259). -/
def execSubN (n : Byte) (s : State) : Result := .next (aluImm .sub n s)

/-- 0xDE `SBC A,n` (R262). -/
def execSbcAN (n : Byte) (s : State) : Result := .next (aluImm .sbc n s)

/-- 0xE6 `AND n` (R265). -/
def execAndN (n : Byte) (s : State) : Result := .next (aluImm .and n s)

/-- 0xEE `XOR n` (R268). -/
def execXorN (n : Byte) (s : State) : Result := .next (aluImm .xor n s)

/-- 0xF6 `OR n` (R271). -/
def execOrN (n : Byte) (s : State) : Result := .next (aluImm .or n s)

/-- 0xFE `CP n` (R274). -/
def execCpAN (n : Byte) (s : State) : Result := .next (aluImm .cp n s)

end Sys2Proof.Machine
end

