-- ==== Sys2Proof/Machine/RotateMisc.lean ====
section
/-! DEFINITION. Accumulator rotates, DAA, CPL, SCF, CCF (44_rotate_misc.md R290 to R297): the shared forms, then one meaning
for each instruction. -/

namespace Sys2Proof.Machine

/-- RLCA, RRCA, RLA, RRA (R290 to R293). -/
def rotateA (op : ShiftOp) (s : State) : State :=
  (s.fetched 1).setAccumulator (rotateA8 op (s.reg .a) s.flags.c)

/-- `DAA` (R294). -/
def decimalAdjust (s : State) : State := (s.fetched 1).setAccumulator (daa8 (s.reg .a) s.flags)

/-- `CPL` (R295): Z and C are not written. -/
def complementA (s : State) : State :=
  (s.fetched 1).setAccumulator ⟨~~~(s.reg .a), { s.flags with n := true, h := true }⟩

/-- `SCF` (R296): Z is not written. -/
def setCarry (s : State) : State := (s.fetched 1).setFlags ⟨s.flags.z, false, false, true⟩

/-- `CCF` (R297): Z is not written. -/
def complementCarry (s : State) : State := (s.fetched 1).setFlags ⟨s.flags.z, false, false, !s.flags.c⟩

/-! ### The instructions -/

/-- 0x07 `RLCA` (R290). -/
def execRlca (s : State) : Result := .next (rotateA .rlc s)

/-- 0x0F `RRCA` (R291). -/
def execRrca (s : State) : Result := .next (rotateA .rrc s)

/-- 0x17 `RLA` (R292). -/
def execRla (s : State) : Result := .next (rotateA .rl s)

/-- 0x1F `RRA` (R293). -/
def execRra (s : State) : Result := .next (rotateA .rr s)

/-- 0x27 `DAA` (R294). -/
def execDaa (s : State) : Result := .next (decimalAdjust s)

/-- 0x2F `CPL` (R295). -/
def execCpl (s : State) : Result := .next (complementA s)

/-- 0x37 `SCF` (R296). -/
def execScf (s : State) : Result := .next (setCarry s)

/-- 0x3F `CCF` (R297). -/
def execCcf (s : State) : Result := .next (complementCarry s)

end Sys2Proof.Machine
end

