-- ==== Sys2Proof/Machine/System.lean ====
section
/-! DEFINITION. System instructions and the illegal bytes (47_system.md R340 to R345): the shared forms, then one meaning for
each instruction. -/

namespace Sys2Proof.Machine

/-- `NOP` (R340). -/
def noOperation (s : State) : State := s.fetched 1

/-- `HALT` (R341): under `HALT_BUG`, with IME = 0 and an enabled interrupt already pending, the CPU does not halt. -/
def haltCpu (s : State) : State :=
  let t := s.fetched 1
  if s.params.haltBug && !s.ctl.ime && s.bus.pending != 0 then
    { t with ctl := { t.ctl with haltBugPending := true } }
  else { t with ctl := { t.ctl with runState := .halted } }

/-- `STOP` (R342), by `STOP_POLICY`; the second byte's value is ignored. -/
def stopCpu (s : State) : State :=
  match s.params.stopPolicy with
  | .fatal => s.raiseFatal .unimplementedOpcode s.pc 0x10
  | .lowPower =>
    let t := s.fetched 2
    { t with ctl := { t.ctl with runState := .stopped },
             bus := { t.bus with timer := { t.bus.timer with divCounter := 0 } } }

/-- `DI` (R343). -/
def disableInterrupts (s : State) : State :=
  let t := s.fetched 1
  { t with ctl := { t.ctl with ime := false, eiDelay := 0 } }

/-- `EI` (R344): IME is set by the bookkeeping after the next instruction (R416, R441). -/
def enableInterrupts (s : State) : State :=
  let t := s.fetched 1
  { t with ctl := { t.ctl with eiDelay := 2 } }

/-- An illegal byte 0 (R345): the exception is taken in the state in which the instruction began. -/
def illegalByte (op : Byte) (s : State) : State := s.raiseFatal .invalidOpcode s.pc op

/-! ### The instructions -/

/-- 0x00 `NOP` (R340). -/
def execNop (s : State) : Result := .next (noOperation s)

/-- 0x10 `STOP` (R342). -/
def execStop (_ : Byte) (s : State) : Result := .next (stopCpu s)

/-- 0x76 `HALT` (R341). -/
def execHalt (s : State) : Result := .next (haltCpu s)

/-- 0xD3 `ILLEGAL_D3` (R345). -/
def execIllegalD3 (s : State) : Result := .next (illegalByte 0xD3 s)

/-- 0xDB `ILLEGAL_DB` (R345). -/
def execIllegalDB (s : State) : Result := .next (illegalByte 0xDB s)

/-- 0xDD `ILLEGAL_DD` (R345). -/
def execIllegalDD (s : State) : Result := .next (illegalByte 0xDD s)

/-- 0xE3 `ILLEGAL_E3` (R345). -/
def execIllegalE3 (s : State) : Result := .next (illegalByte 0xE3 s)

/-- 0xE4 `ILLEGAL_E4` (R345). -/
def execIllegalE4 (s : State) : Result := .next (illegalByte 0xE4 s)

/-- 0xEB `ILLEGAL_EB` (R345). -/
def execIllegalEB (s : State) : Result := .next (illegalByte 0xEB s)

/-- 0xEC `ILLEGAL_EC` (R345). -/
def execIllegalEC (s : State) : Result := .next (illegalByte 0xEC s)

/-- 0xED `ILLEGAL_ED` (R345). -/
def execIllegalED (s : State) : Result := .next (illegalByte 0xED s)

/-- 0xF3 `DI` (R343). -/
def execDi (s : State) : Result := .next (disableInterrupts s)

/-- 0xF4 `ILLEGAL_F4` (R345). -/
def execIllegalF4 (s : State) : Result := .next (illegalByte 0xF4 s)

/-- 0xFB `EI` (R344). -/
def execEi (s : State) : Result := .next (enableInterrupts s)

/-- 0xFC `ILLEGAL_FC` (R345). -/
def execIllegalFC (s : State) : Result := .next (illegalByte 0xFC s)

/-- 0xFD `ILLEGAL_FD` (R345). -/
def execIllegalFD (s : State) : Result := .next (illegalByte 0xFD s)

end Sys2Proof.Machine
end

