-- ==== Sys2Proof/Machine/Transfer.lean ====
section
/-! DEFINITION. Control transfer (46_control.md R320 to R333): the shared forms, then one meaning for each instruction. The
operand bytes are fetched, and PC is past them, whether or not a condition holds (R320). -/

namespace Sys2Proof.Machine

/-- `JP nn` (R321). -/
def jumpAbs (nn : Addr) (s : State) : State := (s.fetched 3).setPc nn

/-- `JP cc,nn` (R322). -/
def jumpAbsIf (cc : Cond) (nn : Addr) (s : State) : State :=
  if s.condition cc then jumpAbs nn s else s.fetched 3

/-- `JP HL` (R323). -/
def jumpHl (s : State) : State := (s.fetched 1).setPc s.hl

/-- `JR e` (R324): relative to PC after the fetch of e. -/
def jumpRel (e : Byte) (s : State) : State :=
  let t := s.fetched 2
  t.setPc (t.pc + sext16 e)

/-- `JR cc,e` (R325). -/
def jumpRelIf (cc : Cond) (e : Byte) (s : State) : State :=
  if s.condition cc then jumpRel e s else s.fetched 2

/-- `CALL nn` (R326): the pushed PC is the address after the instruction. -/
def callAbs (nn : Addr) (s : State) : State :=
  let t := s.fetched 3
  (t.push16 t.pc).setPc nn

/-- `CALL cc,nn` (R327). -/
def callAbsIf (cc : Cond) (nn : Addr) (s : State) : State :=
  if s.condition cc then callAbs nn s else s.fetched 3

/-- `RET` (R328). -/
def ret (s : State) : State := (s.fetched 1).returnToCaller

/-- `RET cc` (R329). -/
def retIf (cc : Cond) (s : State) : State := if s.condition cc then ret s else s.fetched 1

/-- `RETI` (R330). -/
def retInterrupt (s : State) : State := (s.fetched 1).returnFromInterrupt

/-- `RST t` (R333): a call of address `8 * ttt`. -/
def restart (t : Fin 8) (s : State) : State :=
  let u := s.fetched 1
  (u.push16 u.pc).setPc (BitVec.ofNat 16 (8 * t))

/-! ### The instructions -/

/-- 0x18 `JR e` (R324). -/
def execJrE (e : Byte) (s : State) : Result := .next (jumpRel e s)

/-- 0x20 `JR NZ,e` (R325). -/
def execJrNzE (e : Byte) (s : State) : Result := .next (jumpRelIf .nz e s)

/-- 0x28 `JR Z,e` (R325). -/
def execJrZE (e : Byte) (s : State) : Result := .next (jumpRelIf .z e s)

/-- 0x30 `JR NC,e` (R325). -/
def execJrNcE (e : Byte) (s : State) : Result := .next (jumpRelIf .nc e s)

/-- 0x38 `JR C,e` (R325). -/
def execJrCE (e : Byte) (s : State) : Result := .next (jumpRelIf .c e s)

/-- 0xC0 `RET NZ` (R329). -/
def execRetNz (s : State) : Result := .next (retIf .nz s)

/-- 0xC2 `JP NZ,nn` (R322). -/
def execJpNzNn (nn : Addr) (s : State) : Result := .next (jumpAbsIf .nz nn s)

/-- 0xC3 `JP nn` (R321). -/
def execJpNn (nn : Addr) (s : State) : Result := .next (jumpAbs nn s)

/-- 0xC4 `CALL NZ,nn` (R327). -/
def execCallNzNn (nn : Addr) (s : State) : Result := .next (callAbsIf .nz nn s)

/-- 0xC7 `RST 0x00` (R333). -/
def execRst00 (s : State) : Result := .next (restart 0 s)

/-- 0xC8 `RET Z` (R329). -/
def execRetZ (s : State) : Result := .next (retIf .z s)

/-- 0xC9 `RET` (R328). -/
def execRet (s : State) : Result := .next (ret s)

/-- 0xCA `JP Z,nn` (R322). -/
def execJpZNn (nn : Addr) (s : State) : Result := .next (jumpAbsIf .z nn s)

/-- 0xCC `CALL Z,nn` (R327). -/
def execCallZNn (nn : Addr) (s : State) : Result := .next (callAbsIf .z nn s)

/-- 0xCD `CALL nn` (R326). -/
def execCallNn (nn : Addr) (s : State) : Result := .next (callAbs nn s)

/-- 0xCF `RST 0x08` (R333). -/
def execRst08 (s : State) : Result := .next (restart 1 s)

/-- 0xD0 `RET NC` (R329). -/
def execRetNc (s : State) : Result := .next (retIf .nc s)

/-- 0xD2 `JP NC,nn` (R322). -/
def execJpNcNn (nn : Addr) (s : State) : Result := .next (jumpAbsIf .nc nn s)

/-- 0xD4 `CALL NC,nn` (R327). -/
def execCallNcNn (nn : Addr) (s : State) : Result := .next (callAbsIf .nc nn s)

/-- 0xD7 `RST 0x10` (R333). -/
def execRst10 (s : State) : Result := .next (restart 2 s)

/-- 0xD8 `RET C` (R329). -/
def execRetC (s : State) : Result := .next (retIf .c s)

/-- 0xD9 `RETI` (R330). -/
def execReti (s : State) : Result := .next (retInterrupt s)

/-- 0xDA `JP C,nn` (R322). -/
def execJpCNn (nn : Addr) (s : State) : Result := .next (jumpAbsIf .c nn s)

/-- 0xDC `CALL C,nn` (R327). -/
def execCallCNn (nn : Addr) (s : State) : Result := .next (callAbsIf .c nn s)

/-- 0xDF `RST 0x18` (R333). -/
def execRst18 (s : State) : Result := .next (restart 3 s)

/-- 0xE7 `RST 0x20` (R333). -/
def execRst20 (s : State) : Result := .next (restart 4 s)

/-- 0xE9 `JP HL` (R323). -/
def execJpHl (s : State) : Result := .next (jumpHl s)

/-- 0xEF `RST 0x28` (R333). -/
def execRst28 (s : State) : Result := .next (restart 5 s)

/-- 0xF7 `RST 0x30` (R333). -/
def execRst30 (s : State) : Result := .next (restart 6 s)

/-- 0xFF `RST 0x38` (R333). -/
def execRst38 (s : State) : Result := .next (restart 7 s)

end Sys2Proof.Machine
end

