-- ==== Sys2Proof/Machine/Cycles.lean ====
section
/-! DEFINITION. How many cycles an executed instruction takes (30_encoding.md R154 and every instruction's own rule); the
devices advance by that count after it (60_exceptions.md R440). -/

namespace Sys2Proof.Machine

/-- The cycles of each byte 0, in sixteen rows of sixteen (R154, in the layout of R150); of a conditional instruction the
count when it is taken. 0 for the illegal bytes (R345) and for the prefix, whose count the second byte gives. -/
def firstTableCycles : List Nat :=
  [4, 12, 8, 8, 4, 4, 8, 4, 20, 8, 8, 8, 4, 4, 8, 4] ++
  [4, 12, 8, 8, 4, 4, 8, 4, 12, 8, 8, 8, 4, 4, 8, 4] ++
  [12, 12, 8, 8, 4, 4, 8, 4, 12, 8, 8, 8, 4, 4, 8, 4] ++
  [12, 12, 8, 8, 12, 12, 12, 4, 12, 8, 8, 8, 4, 4, 8, 4] ++
  [4, 4, 4, 4, 4, 4, 8, 4, 4, 4, 4, 4, 4, 4, 8, 4] ++
  [4, 4, 4, 4, 4, 4, 8, 4, 4, 4, 4, 4, 4, 4, 8, 4] ++
  [4, 4, 4, 4, 4, 4, 8, 4, 4, 4, 4, 4, 4, 4, 8, 4] ++
  [8, 8, 8, 8, 8, 8, 4, 8, 4, 4, 4, 4, 4, 4, 8, 4] ++
  [4, 4, 4, 4, 4, 4, 8, 4, 4, 4, 4, 4, 4, 4, 8, 4] ++
  [4, 4, 4, 4, 4, 4, 8, 4, 4, 4, 4, 4, 4, 4, 8, 4] ++
  [4, 4, 4, 4, 4, 4, 8, 4, 4, 4, 4, 4, 4, 4, 8, 4] ++
  [4, 4, 4, 4, 4, 4, 8, 4, 4, 4, 4, 4, 4, 4, 8, 4] ++
  [20, 12, 16, 16, 24, 16, 8, 16, 20, 16, 16, 0, 24, 24, 8, 16] ++
  [20, 12, 16, 0, 24, 16, 8, 16, 20, 16, 16, 0, 24, 0, 8, 16] ++
  [12, 12, 8, 0, 0, 16, 8, 16, 16, 4, 16, 0, 0, 0, 8, 16] ++
  [12, 12, 8, 4, 0, 16, 8, 16, 12, 8, 16, 4, 0, 0, 8, 16]

/-- Whether byte 0 is a conditional transfer (R322, R325, R327, R329), and its cycles when the condition fails. -/
def cyclesNotTaken (b0 : Byte) : Option Nat :=
  match b0.toNat with
  | 0x20 | 0x28 | 0x30 | 0x38 | 0xC0 | 0xC8 | 0xD0 | 0xD8 => some 8
  | 0xC2 | 0xC4 | 0xCA | 0xCC | 0xD2 | 0xD4 | 0xDA | 0xDC => some 12
  | _ => none

/-- The cycles of a 0xCB-page instruction, prefix included (R154, R300). -/
def secondTableCycles (op2 : Byte) : Nat :=
  match operandOfCode (field3 op2 0) with
  | .reg _ => 8
  | .memHl => if field2 op2 6 = 1 then 12 else 16

/-- The cycles of the instruction with the given first two bytes, executed in `s` (R154). -/
def cyclesOfBytes (b0 b1 : Byte) (s : State) : Nat :=
  if b0 = 0xCB then secondTableCycles b1
  else match cyclesNotTaken b0 with
    | none => firstTableCycles.getD b0.toNat 0
    | some n => if s.condition (condOfCode (field2 b0 3)) then firstTableCycles.getD b0.toNat 0 else n

/-- The cycles an instruction takes when it is executed in `s` (R154): of a conditional one, by the flags as it begins
(R320); of the lone prefix row, by the byte after it. -/
def instrCycles (i : Instr) (s : State) : Nat :=
  cyclesOfBytes ((encode i).headD 0) ((encode i).getD 1 (s.operandByte 0)) s

end Sys2Proof.Machine
end

