-- ==== Sys2Proof/Machine/Display.lean ====
section
/-! DEFINITION. The display controller (60_exceptions.md R470 to R479): the renderer, the scanline state machine, its
interrupt requests, and frame publication. -/

namespace Sys2Proof.Machine

/-! ### Tiles and palettes -/

/-- The VRAM byte at an address 0x8000-0x9FFF, read directly and not through the bus (R474, R479). -/
def Bus.vramByte (b : Bus) (a : Nat) : Byte := b.vram.read (a - 0x8000)

/-- `TilePixel(addr, r, c)` (R479): the colour number of one pixel of a tile. -/
def Bus.tilePixel (b : Bus) (a row col : Nat) : BitVec 2 :=
  let lo := b.vramByte (a + 2 * row)
  let hi := b.vramByte (a + 2 * row + 1)
  BitVec.ofBool (hi.getLsbD (7 - col)) ++ BitVec.ofBool (lo.getLsbD (7 - col))

/-- `BgTileAddr(idx)` (R479): unsigned from 0x8000 or signed around 0x9000, by LCDC[4]. -/
def Lcd.bgTileAddr (d : Lcd) (idx : Nat) : Nat :=
  if d.lcdc.getLsbD 4 then 0x8000 + 16 * idx
  else if idx < 128 then 0x9000 + 16 * idx
  else 0x8800 + 16 * (idx - 128)

/-- The shade a palette register gives colour number `id`: its bits 2k+1:2k (R46, R479). -/
def paletteShade (palette : Byte) (id : BitVec 2) : BitVec 2 := palette.extractLsb' (2 * id.toNat) 2

/-- The tile map that starts at 0x9800 or 0x9C00 (R40). -/
def tileMapBase (upper : Bool) : Nat := if upper then 0x9C00 else 0x9800

/-- The colour number at plane coordinates (px, py) of the tile map at `base` (R474, R475). -/
def Bus.mapPixel (b : Bus) (base px py : Nat) : BitVec 2 :=
  let idx := (b.vramByte (base + 32 * (py / 8) + px / 8)).toNat
  b.tilePixel (b.lcd.bgTileAddr idx) (py % 8) (px % 8)

/-! ### Background and window -/

/-- `WindowActive(ly)` (R475). -/
def Lcd.windowActive (d : Lcd) (ly : Nat) : Bool :=
  d.lcdc.getLsbD 0 && d.lcdc.getLsbD 5 && decide (d.wy.toNat ≤ ly) && decide (d.wx.toNat ≤ 166)

/-- Whether the window covers pixel (ly, x) (R475). -/
def Lcd.windowCovers (d : Lcd) (ly x : Nat) : Bool := d.windowActive ly && decide (d.wx.toNat ≤ x + 7)

/-- The colour number `BgWindowPixel(ly, x)` finds (R474, R475): window over background, colour 0 with LCDC[0] = 0. -/
def Bus.bgColour (b : Bus) (ly x : Nat) : BitVec 2 :=
  let d := b.lcd
  if d.windowCovers ly x then
    b.mapPixel (tileMapBase (d.lcdc.getLsbD 6)) (x + 7 - d.wx.toNat) d.windowLine.toNat
  else if d.lcdc.getLsbD 0 then
    b.mapPixel (tileMapBase (d.lcdc.getLsbD 3)) ((x + d.scx.toNat) % 256) ((ly + d.scy.toNat) % 256)
  else 0

/-- The shade `BgWindowPixel(ly, x)` finds (R474): shade 0 whatever BGP says when LCDC[0] = 0. -/
def Bus.bgShade (b : Bus) (ly x : Nat) : BitVec 2 :=
  if b.lcd.lcdc.getLsbD 0 then paletteShade b.lcd.bgp (b.bgColour ly x) else 0

/-! ### Sprites -/

/-- One sprite's entry in OAM (R476). -/
structure Sprite where
  y : Nat
  x : Nat
  tile : Byte
  attr : Byte
deriving DecidableEq, Repr

/-- OAM entry `i` (R97, R476), read directly and not through the bus. -/
def Bus.sprite (b : Bus) (i : Nat) : Sprite :=
  ⟨(b.oam.read (4 * i)).toNat, (b.oam.read (4 * i + 1)).toNat, b.oam.read (4 * i + 2), b.oam.read (4 * i + 3)⟩

/-- The height of every sprite, by LCDC[2] (R40, R476). -/
def Lcd.spriteHeight (d : Lcd) : Nat := if d.lcdc.getLsbD 2 then 16 else 8

/-- The first ten sprites, in OAM order, that touch line `ly` (R476). -/
def Bus.lineSprites (b : Bus) (ly : Nat) : List Sprite :=
  (((List.range 40).map b.sprite).filter
    (fun s => decide (s.y ≤ ly + 16) && decide (ly + 16 < s.y + b.lcd.spriteHeight))).take 10

/-- The colour number a sprite has at pixel (ly, x), 0 where it does not reach the pixel (R476). -/
def Bus.spriteColour (b : Bus) (s : Sprite) (ly x : Nat) : BitVec 2 :=
  if s.x ≤ x + 8 ∧ x + 8 < s.x + 8 then
    let col := if s.attr.getLsbD 5 then 7 - (x + 8 - s.x) else x + 8 - s.x
    let row := if s.attr.getLsbD 6 then b.lcd.spriteHeight - 1 - (ly + 16 - s.y) else ly + 16 - s.y
    let tile := if b.lcd.lcdc.getLsbD 2 then s.tile &&& 0xFE else s.tile
    b.tilePixel (0x8000 + 16 * tile.toNat) row col
  else 0

/-- One round of `SpritePixel`'s loop (R476): an opaque candidate replaces the best so far when its X is smaller. -/
def Bus.betterSprite (b : Bus) (ly x : Nat) (best : Option Sprite) (s : Sprite) : Option Sprite :=
  if b.spriteColour s ly x = 0 then best
  else match best with
    | none => some s
    | some t => if s.x < t.x then some s else some t

/-- `SpritePixel(ly, x)` (R476): the sprite that shows at a pixel, if any, among the line's ten. -/
def Bus.spriteAt (b : Bus) (sprites : List Sprite) (ly x : Nat) : Option Sprite :=
  if b.lcd.lcdc.getLsbD 1 then sprites.foldl (b.betterSprite ly x) none else none

/-! ### Composition and rendering -/

/-- `Pixel(ly, x)` (R474), given the line's sprites: the winning sprite's shade, unless it stands behind a nonzero
background or window colour. -/
def Bus.pixel (b : Bus) (sprites : List Sprite) (ly x : Nat) : BitVec 2 :=
  match b.spriteAt sprites ly x with
  | none => b.bgShade ly x
  | some s =>
    if s.attr.getLsbD 7 && b.bgColour ly x != 0 then b.bgShade ly x
    else paletteShade (if s.attr.getLsbD 4 then b.lcd.obp1 else b.lcd.obp0) (b.spriteColour s ly x)

/-- The 160 shades of one line (R474). -/
def Bus.renderRow (b : Bus) (ly : Nat) : List (BitVec 2) :=
  (List.range 160).map (b.pixel (b.lineSprites ly) ly)

/-- `RenderScanline(ly)` (R474): the line's row is stored, and the window's own line counter steps where the window
was active. -/
def renderScanline (ly : Nat) (b : Bus) : Bus :=
  { b with lcd := { b.lcd with
      fbWork := b.lcd.fbWork.set ly (b.renderRow ly),
      windowLine := if b.lcd.windowActive ly then b.lcd.windowLine + 1 else b.lcd.windowLine } }

/-! ### The scanline state machine -/

/-- A STAT condition occurs (R471, R472): IF[1] is set where its enable bit STAT[bit] is. -/
def statEvent (bit : Nat) (b : Bus) : Bus := if b.lcd.statEn.getLsbD (bit - 3) then b.request 1 else b

/-- Give the display a mode. -/
def setMode (m : LcdMode) (b : Bus) : Bus := { b with lcd := { b.lcd with mode := m } }

/-- `LycCheck()` (R472). -/
def lycCheck (b : Bus) : Bus := if b.lcd.ly = b.lcd.lyc then statEvent 6 b else b

/-- `Publish()` (R478): the finished frame becomes the one the host sees. -/
def publish (b : Bus) : Bus :=
  { b with lcd := { b.lcd with fbFront := b.lcd.fbWork, generation := b.lcd.generation + 1 } }

/-- The first dot of a line: dot 0 and the given LY (R471). -/
def startLine (ly : Byte) (b : Bus) : Bus := { b with lcd := { b.lcd with dot := 0, ly := ly } }

/-- V-blank begins (R471): mode 1, the V-blank request, the STAT condition, and publication. -/
def enterVblank (b : Bus) : Bus := publish (statEvent 4 ((setMode .vblank b).request 0))

/-- OAM-scan begins (R471): mode 2 and its STAT condition. -/
def enterOamScan (b : Bus) : Bus := statEvent 5 (setMode .oamScan b)

/-- The end of a visible line (R471). -/
def endVisibleLine (b : Bus) : Bus :=
  let ly := b.lcd.ly + 1
  let t := startLine ly b
  lycCheck (if ly = 144 then enterVblank t else enterOamScan t)

/-- A new frame begins (R471): line 0, window counter 0, OAM-scan. -/
def startFrame (b : Bus) : Bus :=
  let t := startLine 0 b
  enterOamScan { t with lcd := { t.lcd with windowLine := 0 } }

/-- The end of a V-blank line (R471). -/
def endVblankLine (b : Bus) : Bus :=
  let ly := b.lcd.ly + 1
  lycCheck (if ly = 154 then startFrame b else startLine ly b)

/-- `DisplayDot()` (R471). DEDUCED (log 17) for positions outside the frame, which no step reaches. -/
def displayDot (b : Bus) : Bus :=
  if b.lcd.enabled then
    let t := { b with lcd := { b.lcd with dot := b.lcd.dot + 1 } }
    if t.lcd.ly.toNat < 144 then
      if t.lcd.dot = 80 then renderScanline t.lcd.ly.toNat (setMode .transfer t)
      else if t.lcd.dot = 252 then statEvent 3 (setMode .hblank t)
      else if t.lcd.dot = 456 then endVisibleLine t
      else t
    else if t.lcd.dot = 456 then endVblankLine t
    else t
  else b

/-- `DisplayAdvance(n)` (R470). -/
def displayAdvance : Nat → Bus → Bus
  | 0, b => b
  | n + 1, b => displayAdvance n (displayDot b)

end Sys2Proof.Machine
end

