-- ==== Sys2Proof/Machine/HostInterface.lean ====
section
/-! DEFINITION. The host's side: button presses and releases (60_exceptions.md R460, R461), when they apply (R490 (c)), and
the frame buffer the host reads (R478, R490 (d)). -/

namespace Sys2Proof.Machine

/-- The bit of the `buttons` mask a button has (R33, R460). -/
def Button.bit : Button → Fin 8
  | .right => 0
  | .left => 1
  | .up => 2
  | .down => 3
  | .a => 4
  | .b => 5
  | .select => 6
  | .start => 7

/-- Whether the group that button bit `i` belongs to is selected in P1 (R460): select bit 0 means selected. -/
def Joypad.selected (j : Joypad) (i : Fin 8) : Bool :=
  if i.val < 4 then !j.p1Select.getLsbD 0 else !j.p1Select.getLsbD 1

/-- `press(b)` (R460): a press that is a transition in a selected group requests the input interrupt and ends STOPPED. -/
def pressButton (button : Button) (s : State) : State :=
  let j := s.bus.joypad
  if j.buttons.getLsbD button.bit then s
  else
    let t := { s with bus := { s.bus with joypad := { j with buttons := j.buttons ||| BitVec.twoPow 8 button.bit } } }
    if j.selected button.bit then
      { t with bus := t.bus.request 4,
               ctl := { t.ctl with runState := if t.ctl.runState = .stopped then .running else t.ctl.runState } }
    else t

/-- `release(b)` (R461). -/
def releaseButton (button : Button) (s : State) : State :=
  let j := s.bus.joypad
  { s with bus := { s.bus with joypad := { j with buttons := j.buttons &&& ~~~(BitVec.twoPow 8 button.bit) } } }

/-- One host event (R490 (c)). -/
def applyEvent (s : State) : HostEvent → State
  | .press button => pressButton button s
  | .release button => releaseButton button s

/-- The host events that apply before this step, taken off the input stream in order (R440, R490 (c)). DESIGN CHOICE
(log 5): a step's events are the head of a list in the state. -/
def hostPhase (s : State) : State :=
  match s.input with
  | [] => s
  | events :: later => events.foldl applyEvent { s with input := later }

/-- The packed pixel of a shade (R478). -/
def PixelMap.pixel (p : PixelMap) (shade : BitVec 2) : BitVec 32 :=
  if shade = 0 then p.shade0 else if shade = 1 then p.shade1 else if shade = 2 then p.shade2 else p.shade3

/-- `get_frame_buffer` (R478, R490 (d)): the published frame in row-major order, packed, with its generation. -/
def frameBuffer (s : State) : List (BitVec 32) × Nat :=
  (s.bus.lcd.fbFront.flatten.map (PixelMap.pixel s.params.pixels), s.bus.lcd.generation)

end Sys2Proof.Machine
end

