-- ==== Sys2Proof/Machine/Timer.lean ====
section
/-! DEFINITION. The divider and the timer (60_exceptions.md R450, R451). -/

namespace Sys2Proof.Machine

/-- The bit of `div_counter` whose fall ticks TIMA, by TAC[1:0] (R450). -/
def timerTap (tac : BitVec 3) : Nat :=
  match (tac.extractLsb' 0 2).toNat with
  | 0 => 9
  | 1 => 3
  | 2 => 5
  | _ => 7

/-- The timer's run bit, TAC[2] (R37). -/
def Timer.running (t : Timer) : Bool := t.tac.getLsbD 2

/-- `TimaIncrement()` (R451): on overflow TIMA reloads from TMA and the timer interrupt is requested. -/
def timaIncrement (b : Bus) : Bus :=
  if b.timer.tima = 0xFF then
    { b with timer := { b.timer with tima := b.timer.tma } }.request 2
  else { b with timer := { b.timer with tima := b.timer.tima + 1 } }

/-- `TimerTick()` (R450). -/
def timerTick (b : Bus) : Bus :=
  let old := b.timer.divCounter
  let new := old + 1
  let t := { b with timer := { b.timer with divCounter := new } }
  let tap := timerTap b.timer.tac
  if b.timer.running && old.getLsbD tap && !new.getLsbD tap then timaIncrement t else t

/-- `TimerAdvance(n)` (R450). -/
def timerAdvance : Nat → Bus → Bus
  | 0, b => b
  | n + 1, b => timerAdvance n (timerTick b)

end Sys2Proof.Machine
end

