-- ==== Sys2Proof/Machine/Sequencer.lean ====
section
/-! DEFINITION. What surrounds an executed instruction in a step (60_exceptions.md R413, R416, R420, R422, R440, R441): the wake from
HALT, the choice between dispatch, idling and fetching, the fetch, the EI bookkeeping, and the devices' advance. -/

namespace Sys2Proof.Machine

/-- The devices advance by the cycles of a CPU step: timer, then display (R440). -/
def advanceDevices (n : Nat) (b : Bus) : Bus := displayAdvance n (timerAdvance n b)

namespace State

/-- The devices advance by `n` cycles (R440). -/
def advance (s : State) (n : Nat) : State := { s with bus := advanceDevices n s.bus }

/-- Whether the test before the fetch finds an interrupt to dispatch (R411, R413, R441). -/
def dispatches (s : State) : Bool := s.ctl.ime && s.bus.pending != 0

/-- The wake from HALT: an enabled request pending, whatever IME says (R420, R441). -/
def wake (s : State) : State :=
  if s.ctl.runState = .halted ∧ s.bus.pending ≠ 0 then { s with ctl := { s.ctl with runState := .running } } else s

/-- The instruction the bytes at PC encode (R441, R442), with the HALT bug's repeated byte (R421). Three bytes are read
whatever the length: DEDUCED (log 18). -/
def fetchInstr (s : State) : Instr := decodeBytes (s.read s.pc) (s.operandByte 0) (s.operandByte 1)

/-- The bookkeeping after an executed instruction (R416, R441). -/
def eiBookkeeping (s : State) : State :=
  match s.ctl.eiDelay with
  | 0 => s
  | 1 => { s with ctl := { s.ctl with eiDelay := 0, ime := true } }
  | 2 => { s with ctl := { s.ctl with eiDelay := 1 } }

/-- What follows an executed instruction that took `n` cycles: nothing once it raised Fatal (R400, R440, R441); else the
EI bookkeeping and then the devices, which stand still once STOPPED (R422, R440). -/
def afterExecute (s : State) (n : Nat) : State :=
  if s.ctl.runState = .fatal then s
  else
    let t := s.eiBookkeeping
    if t.ctl.runState = .stopped then t else t.advance n

end State

/-- How a step begins: complete without an instruction, or about to execute the one at PC. -/
inductive StepStart where
  | complete (s : State)
  | execute (s : State)
deriving DecidableEq, Repr

/-- The step up to the opcode fetch (R440, R441): FATAL changes nothing (R400); the host's events apply (R490 (c)); STOPPED
stands still (R422); HALTED wakes or idles for 4 cycles (R420); a deliverable interrupt is dispatched for 20 (R413). -/
def startStep (s : State) : StepStart :=
  if s.ctl.runState = .fatal then .complete s
  else
    let t := hostPhase s
    if t.ctl.runState = .stopped then .complete t
    else
      let u := t.wake
      if u.dispatches then .complete (u.dispatchInterrupt.advance 20)
      else if u.ctl.runState = .halted then .complete (u.advance 4)
      else .execute u

/-- Complete a step after its instruction, executed in `s`, answered (R440, R441). -/
def completeStep (i : Instr) (s : State) (r : Result) : Result :=
  match r with
  | .next t => .next (t.afterExecute (instrCycles i s))
  | .fault f => .fault f
  | .refused f => .refused f

/-! ### Placing an instruction where the next step fetches -/

/-- Store `v` in whatever memory answers reads of an address, ROM included; nothing where no memory answers. -/
def Bus.poke (b : Bus) (a : Addr) (v : Byte) : Bus :=
  match regionOf a with
  | .romFixed => { b with cart := { b.cart with rom := b.cart.rom.write (b.cart.romOffset b.cart.fixedBank a) v } }
  | .romSwitch => { b with cart := { b.cart with rom := b.cart.rom.write (b.cart.romOffset b.cart.switchBank a) v } }
  | .vram | .cartRam | .wram | .echo | .oam | .hram | .intEnable => b.write a v
  | .io => if ioRegAt a = .sound then b.write a v else b
  | .unusable => b

/-- Store the bytes of a list from an address on. -/
def Bus.pokeAll : Bus → Addr → List Byte → Bus
  | b, _, [] => b
  | b, a, v :: vs => Bus.pokeAll (b.poke a v) (a + 1) vs

/-- The bytes read from an address on. -/
def Bus.readAll (b : Bus) (a : Addr) (count : Nat) : List Byte :=
  (List.range count).map (fun i => b.read (a + BitVec.ofNat 16 i))

/-- A state whose next step reaches the opcode fetch: running, no HALT bug pending, no host event before it, and no
interrupt deliverable. -/
def State.readyToFetch (s : State) : State :=
  { s with ctl := { s.ctl with runState := .running, haltBugPending := false,
                               ime := s.ctl.ime && s.bus.pending == 0, fatalRecord := none },
           input := match s.input with
             | [] => []
             | _ :: later => [] :: later }

/-- Place bytes where the next step fetches: at PC, or, where no memory at PC can hold them, at 0xC000 with PC there.
DESIGN CHOICE (log 3). -/
def State.placeCode (s : State) (bytes : List Byte) : State :=
  let t := s.readyToFetch
  let b := t.bus.pokeAll t.pc bytes
  if b.readAll t.pc bytes.length = bytes then { t with bus := b }
  else { t.setPc 0xC000 with bus := t.bus.pokeAll 0xC000 bytes }

end Sys2Proof.Machine
end

