-- ==== Sys2Proof/Machine/Step.lean ====
section
/-! DEFINITION. `SystemStep` (60_exceptions.md R440) with the host events that apply before it (R490 (c)), and the placing of an
instruction where the next step fetches it. -/

namespace Sys2Proof.Machine

/-- One step of the whole core (R440, R441): it begins by `startStep`; where that reaches an instruction, the one at PC is
executed and `completeStep` follows. -/
def step (s : State) : Host.Outcome State Fault Refusal :=
  match startStep s with
  | .complete t => .next t
  | .execute t => completeStep t.fetchInstr t (exec t.fetchInstr t)

/-- `s` with the instruction of a word of spec/opcode_table.json stored where `step` fetches its next one. It stands for
the load of a program from outside (R490 (b)). -/
def State.withFetchWord (s : State) (nbits w : Nat) : State := s.placeCode (tableBytes nbits w)

end Sys2Proof.Machine
end

