-- ==== Sys2Proof/Machine/Loader.lean ====
section
/-! DEFINITION. Loading a cartridge (20_memory.md R80, R81; 60_exceptions.md R403; 70_reset_and_hazards.md R500): the header, the
checks, and the reset state around the image. -/

namespace Sys2Proof.Machine

/-- The kinds of load failure, with the codes 16 to 19 of R403. -/
inductive LoadFailure where
  | romTooSmall
  | unsupportedMapper
  | badRomSizeCode
  | badRamSizeCode
deriving DecidableEq, Repr

/-- The code of a load failure (R403). -/
def LoadFailure.code : LoadFailure → Nat
  | .romTooSmall => 16
  | .unsupportedMapper => 17
  | .badRomSizeCode => 18
  | .badRamSizeCode => 19

/-- The code of a fatal kind (R401). -/
def FatalKind.code : FatalKind → Nat
  | .invalidOpcode => 1
  | .unimplementedOpcode => 2

/-- The mapper a cartridge type byte declares, with its registers at reset (R27, R80); none where unsupported. -/
def mapperOfType (type : Byte) : Option Mapper :=
  match type.toNat with
  | 0x00 | 0x08 | 0x09 => some .romOnly
  | 0x01 | 0x02 | 0x03 => some (.mbc1 1 0 false)
  | 0x0F | 0x10 | 0x11 | 0x12 | 0x13 => some (.mbc3 1 0)
  | 0x19 | 0x1A | 0x1B | 0x1C | 0x1D | 0x1E => some (.mbc5 1 0)
  | _ => none

/-- Whether a cartridge type byte declares RAM (R80). -/
def typeHasRam (type : Byte) : Bool :=
  match type.toNat with
  | 0x00 | 0x01 | 0x0F | 0x11 | 0x19 | 0x1C => false
  | _ => true

/-- `rom_banks` of a ROM size code 0 to 8 (R80). -/
def romBanksOfCode (code : Byte) : Option Nat := if code.toNat ≤ 8 then some (2 ^ (code.toNat + 1)) else none

/-- `ram_size` of a RAM size code 0 to 5 (R80). -/
def ramSizeOfCode (code : Byte) : Option Nat :=
  match code.toNat with
  | 0 => some 0
  | 1 => some 2048
  | 2 => some 8192
  | 3 => some 32768
  | 4 => some 131072
  | 5 => some 65536
  | _ => none

/-- The contents of the internal memories at reset: the parameter `RAM_INIT` (R5, R26), one byte list a memory, a
missing byte reading as the default: DESIGN CHOICE (log 10). -/
structure RamInit where
  vram : List Byte
  wram : List Byte
  oam : List Byte
  hram : List Byte
deriving DecidableEq, Repr

/-- The default of `RAM_INIT`: every byte 0x00. -/
def RamInit.default : RamInit := ⟨[], [], [], []⟩

/-- Validate an image and fix the cartridge's configuration (R80, R81, R500 (1) and (2)); `cartRam` is
`CART_RAM_INIT`. Where several checks fail, the first in R81's order is the one reported: DEDUCED (log 12). -/
def loadCart (image cartRam : List Byte) : Except LoadFailure Cart :=
  let headerByte (i : Nat) : Byte := image.getD i fillByte
  if image.length < 0x8000 then .error .romTooSmall
  else match mapperOfType (headerByte 0x0147) with
    | none => .error .unsupportedMapper
    | some mapper => match romBanksOfCode (headerByte 0x0148) with
      | none => .error .badRomSizeCode
      | some romBanks => match ramSizeOfCode (headerByte 0x0149) with
        | none => .error .badRamSizeCode
        | some declared =>
          let ramSize := if typeHasRam (headerByte 0x0147) then declared else 0
          .ok { rom := Memory.ofBytes image, romLength := image.length, romBanks := romBanks, ramSize := ramSize,
                ram := Memory.ofBytes (cartRam.take ramSize), ramEnable := false, mapper := mapper }

/-- `run(rom_bytes)` up to the step loop (R490 (b), R500): the machine after the load, or the failure of R403. -/
def State.load (image cartRam : List Byte) (ram : RamInit) (params : Params) : Except LoadFailure State :=
  match loadCart image cartRam with
  | .error e => .error e
  | .ok cart =>
    .ok { cpu := Cpu.reset, ctl := Control.reset,
          bus := Bus.reset cart (Memory.ofBytes (ram.vram.take 8192)) (Memory.ofBytes (ram.wram.take 8192))
            (Memory.ofBytes (ram.oam.take 160)) (Memory.ofBytes (ram.hram.take 127)),
          params := params, input := [] }

end Sys2Proof.Machine
end

