-- ==== Sys2Proof/Machine/Run.lean ====
section
/-! DEFINITION. What a step returns beside its state, and a run for tests and proofs (60_exceptions.md R440, R441, R491). The
returned count is no state (10_state.md R10), so it is a function of the state in which the step begins: DEDUCED (log 15). -/

namespace Sys2Proof.Machine

/-- What `SystemStep` returns (R440): the cycles it took, or that the machine is in FATAL, with the record (R400). -/
inductive StepReport where
  | cycles (n : Nat)
  | fatal (record : Option FatalRecord)
deriving DecidableEq, Repr

/-- The report of an instruction executed in `s` by `CpuStep` (R441): its cycles, or the record it raised. -/
def executeReport (s : State) : StepReport :=
  match exec s.fetchInstr s with
  | .next t => if t.ctl.runState = .fatal then .fatal t.ctl.fatalRecord else .cycles (instrCycles s.fetchInstr s)
  | .fault _ | .refused _ => .cycles 0

/-- The value returned by the step that begins in `s` (R440, R441): 20 cycles for a dispatch (R413), 4 for an idle step of
HALTED or STOPPED (R420, R422), else the instruction's own count (R154). -/
def stepReport (s : State) : StepReport :=
  if s.ctl.runState = .fatal then .fatal s.ctl.fatalRecord
  else
    let t := hostPhase s
    if t.ctl.runState = .stopped then .cycles 4
    else
      let u := t.wake
      if u.dispatches then .cycles 20
      else if u.ctl.runState = .halted then .cycles 4
      else executeReport u

/-- The state after `n` steps. A step always answers a next state; the other outcomes would leave the state as it is. -/
def stepMany : Nat → State → State
  | 0, s => s
  | n + 1, s =>
    match step s with
    | .next t => stepMany n t
    | .fault _ | .refused _ => s

/-- `RunUntilHalt` (R491), in at most `n` steps: until the run state is HALTED or FATAL. DESIGN CHOICE (log 19): the run state
is tested before the first step, so a state that is HALTED or FATAL already takes none, and the steps are bounded. -/
def runUntilHalt : Nat → State → State
  | 0, s => s
  | n + 1, s =>
    if s.ctl.runState = .halted ∨ s.ctl.runState = .fatal then s
    else match step s with
      | .next t => runUntilHalt n t
      | .fault _ | .refused _ => s

end Sys2Proof.Machine
end

