-- ==== Sys2Proof/Safety.lean ====
section
/-! DEFINITION. What counts as a safe state, and the words the claims are stated in: the codes of 30_encoding.md R143 to R148,
the frames of instructions, the addresses a store may affect, the invariants of the state, and the display's position in
its frame. Nothing of the machine is defined here. -/

namespace Sys2Proof

/-! ### Operand codes, from names to bits (R143 to R148) -/

/-- The 3-bit code of a register (R143). -/
def Reg8.code : Reg8 → BitVec 3
  | .b => 0b000
  | .c => 0b001
  | .d => 0b010
  | .e => 0b011
  | .h => 0b100
  | .l => 0b101
  | .a => 0b111

/-- The 3-bit operand code, 6 for the memory byte at HL (R143). -/
def Operand8.code : Operand8 → BitVec 3
  | .reg r => r.code
  | .memHl => 0b110

/-- The 2-bit code `R16` (R144). -/
def Reg16.code : Reg16 → BitVec 2
  | .bc => 0b00
  | .de => 0b01
  | .hl => 0b10
  | .sp => 0b11

/-- The 2-bit code `R16S` (R145). -/
def StackReg.code : StackReg → BitVec 2
  | .bc => 0b00
  | .de => 0b01
  | .hl => 0b10
  | .af => 0b11

/-- The 2-bit condition code (R146). -/
def Cond.code : Cond → BitVec 2
  | .nz => 0b00
  | .z => 0b01
  | .nc => 0b10
  | .c => 0b11

/-- The 3-bit ALU operation code (R147). -/
def AluOp.code : AluOp → BitVec 3
  | .add => 0b000
  | .adc => 0b001
  | .sub => 0b010
  | .sbc => 0b011
  | .and => 0b100
  | .xor => 0b101
  | .or => 0b110
  | .cp => 0b111

/-- The 3-bit rotate or shift operation code (R148). -/
def ShiftOp.code : ShiftOp → BitVec 3
  | .rlc => 0b000
  | .rrc => 0b001
  | .rl => 0b010
  | .rr => 0b011
  | .sla => 0b100
  | .sra => 0b101
  | .swap => 0b110
  | .srl => 0b111

/-- The registers of a pair, high half first (R12); none for SP. -/
def Reg16.regs : Reg16 → List Reg8
  | .bc => [.b, .c]
  | .de => [.d, .e]
  | .hl => [.h, .l]
  | .sp => []

/-- Bits 7:0 and then bits 15:8 of a 16-bit immediate, as they follow the opcode (R149). -/
def immediateBytes (nn : Addr) : List Byte := [nn.extractLsb' 0 8, nn.extractLsb' 8 8]

/-- The instructions that write a flag, as R279 lists them, with the lone prefix row, whose second byte may select one. -/
inductive WritesFlag : Instr → Prop where
  | alu (op : AluOp) (x : Operand8) : WritesFlag (Instr.alu op x)
  | aluImm (op : AluOp) (n : Byte) : WritesFlag (Instr.aluImm op n)
  | inc (x : Operand8) : WritesFlag (Instr.inc x)
  | dec (x : Operand8) : WritesFlag (Instr.dec x)
  | addHl (r : Reg16) : WritesFlag (Instr.addHl r)
  | addSpE (e : Byte) : WritesFlag (.addSpE e)
  | ldHlSpE (e : Byte) : WritesFlag (.ldHlSpE e)
  | rlca : WritesFlag .rlca
  | rrca : WritesFlag .rrca
  | rla : WritesFlag .rla
  | rra : WritesFlag .rra
  | daa : WritesFlag .daa
  | cpl : WritesFlag .cpl
  | scf : WritesFlag .scf
  | ccf : WritesFlag .ccf
  | shift (op : ShiftOp) (x : Operand8) : WritesFlag (Instr.shift op x)
  | bit (b : Fin 8) (x : Operand8) : WritesFlag (Instr.bit b x)
  | popAf : WritesFlag .popAf
  | prefixCb : WritesFlag .prefixCb

/-- The instructions that may change the bus side of the state: those that store (R203, R204, R207, R208, R210, R214, R216 to
R218, R231, R236, R276, R278, R301 to R308, R310, R311 on (HL), R326, R327, R333), STOP, which zeroes the divider (R342),
and the lone prefix row. -/
inductive TouchesBus : Instr → Prop where
  | ldMemHlReg (r : Reg8) : TouchesBus (Instr.ldMemHlReg r)
  | ldMemHlN (n : Byte) : TouchesBus (.ldMemHlN n)
  | ldPointerA (p : Pointer) : TouchesBus (Instr.ldPointerA p)
  | ldMemNnA (nn : Addr) : TouchesBus (.ldMemNnA nn)
  | ldhMemCA : TouchesBus .ldhMemCA
  | ldhMemNA (n : Byte) : TouchesBus (.ldhMemNA n)
  | ldHlStepA (m : HlStep) : TouchesBus (Instr.ldHlStepA m)
  | ldMemNnSp (nn : Addr) : TouchesBus (.ldMemNnSp nn)
  | push (r : StackReg) : TouchesBus (Instr.push r)
  | incMemHl : TouchesBus (Instr.inc .memHl)
  | decMemHl : TouchesBus (Instr.dec .memHl)
  | shift (op : ShiftOp) : TouchesBus (Instr.shift op .memHl)
  | res (b : Fin 8) : TouchesBus (Instr.res b .memHl)
  | set (b : Fin 8) : TouchesBus (Instr.set b .memHl)
  | callNn (nn : Addr) : TouchesBus (.callNn nn)
  | callIf (cc : Cond) (nn : Addr) : TouchesBus (Instr.callIf cc nn)
  | rst (t : Fin 8) : TouchesBus (Instr.rst t)
  | stop (n : Byte) : TouchesBus (.stop n)
  | prefixCb : TouchesBus .prefixCb

/-- The instructions that may change SP (R16). -/
inductive WritesSp : Instr → Prop where
  | ldSpNn (nn : Addr) : WritesSp (.ldSpNn nn)
  | ldSpHl : WritesSp .ldSpHl
  | addSpE (e : Byte) : WritesSp (.addSpE e)
  | incSp : WritesSp .incSp
  | decSp : WritesSp .decSp
  | push (r : StackReg) : WritesSp (Instr.push r)
  | pop (r : StackReg) : WritesSp (Instr.pop r)
  | callNn (nn : Addr) : WritesSp (.callNn nn)
  | callIf (cc : Cond) (nn : Addr) : WritesSp (Instr.callIf cc nn)
  | rst (t : Fin 8) : WritesSp (Instr.rst t)
  | ret : WritesSp .ret
  | retIf (cc : Cond) : WritesSp (Instr.retIf cc)
  | reti : WritesSp .reti

namespace Machine

/-! ### Frames of instructions -/

/-- The address of the byte after an instruction of `len` bytes that begins in `s`: `PC + len` (R15, R140), and one less
while the HALT bug is pending, whose opcode fetch leaves PC alone (R421). -/
def State.pcAfter (s : State) (len : Nat) : Addr :=
  if s.ctl.haltBugPending then s.pc + BitVec.ofNat 16 (len - 1) else s.pc + BitVec.ofNat 16 len

/-- What no instruction but DI, EI, RETI, HALT, STOP and the illegal bytes does: change the control state. A pending HALT
bug is used up by the fetch (R421). The host's side is unchanged too. -/
structure KeepsControl (s t : State) : Prop where
  ctl : t.ctl = { s.ctl with haltBugPending := false }
  params : t.params = s.params
  input : t.input = s.input

/-- The frame of an instruction of `len` bytes that transfers no control: PC is past it, the control state is kept. -/
structure Advances (len : Nat) (s t : State) : Prop extends KeepsControl s t where
  pc : t.pc = s.pcAfter len

/-- Every 8-bit register but those listed is unchanged; SP and the flags are spoken of separately. -/
def OnlyRegs (written : List Reg8) (s t : State) : Prop := ∀ r, r ∉ written → t.reg r = s.reg r

/-- All eight registers, the flags and SP are unchanged. -/
structure KeepsRegs (s t : State) : Prop where
  regs : OnlyRegs [] s t
  flags : t.flags = s.flags
  sp : t.sp = s.sp

/-! ### What a store may affect -/

/-- The index in WRAM that an address in work RAM or in its echo names (R96). -/
def wramIndex (a : Addr) : Nat := if a.toNat < 0xE000 then a.toNat - 0xC000 else a.toNat - 0xE000

/-- Whether reading I/O address `x` may give another value after a write to I/O address `a` (R101, R110 to R127): LYC is
also seen in STAT bit 2, LCDC bit 7 moves LY and the mode, DMA fills OAM; LY and the unmapped addresses ignore writes. -/
def ioReaches (a x : Addr) : Bool :=
  match ioRegAt a with
  | .ly | .unmapped => false
  | .lyc => x == 0xFF45 || x == 0xFF41
  | .lcdc => x == 0xFF40 || x == 0xFF41 || x == 0xFF44
  | .dma => x == 0xFF46 || regionOf x == .oam
  | _ => x == a

/-- Whether reading address `x` may give another value after a write to address `a` (R72, R73): the byte itself, its echo
or its mirror in cartridge RAM, the cartridge's windows for a write to a mapper register, the rest by `ioReaches`. -/
def Bus.reaches (b : Bus) (a x : Addr) : Bool :=
  match regionOf a with
  | .romFixed | .romSwitch =>
    b.cart.mapper != .romOnly && (regionOf x == .romFixed || regionOf x == .romSwitch || regionOf x == .cartRam)
  | .cartRam => regionOf x == .cartRam && (b.cart.ramOffset a).isSome && b.cart.ramOffset x == b.cart.ramOffset a
  | .wram | .echo => (regionOf x == .wram || regionOf x == .echo) && wramIndex x == wramIndex a
  | .vram | .oam | .hram | .intEnable => x == a
  | .unusable => false
  | .io => ioReaches a x

/-- Whether an address reads back what was last written to it: plain storage (R95 to R97, R99, R116, R118) and the 8-bit
registers that store the whole byte (R112, R114, R119, R121, R123 to R126). -/
def Bus.storesByte (b : Bus) (a : Addr) : Bool :=
  match regionOf a with
  | .vram | .wram | .echo | .oam | .hram | .intEnable => true
  | .cartRam => (b.cart.ramOffset a).isSome
  | .romFixed | .romSwitch | .unusable => false
  | .io =>
    match ioRegAt a with
    | .sb | .tima | .tma | .sound | .lcdc | .scy | .scx | .lyc | .dma | .bgp | .obp0 | .obp1 | .wy | .wx => true
    | .p1 | .sc | .div | .tac | .intFlag | .stat | .ly | .unmapped => false

/-! ### Invariants -/

/-- A memory of `size` bytes in canonical form. -/
abbrev Memory.ok (size : Nat) (m : Memory) : Prop := m.wf ∧ m.within size

/-- Every memory of the machine is in canonical form and holds no byte outside its size (R26, R27, R38). -/
abbrev Bus.memoriesOk (b : Bus) : Prop :=
  b.vram.ok 8192 ∧ b.wram.ok 8192 ∧ b.oam.ok 160 ∧ b.hram.ok 127 ∧ b.sound.ok 48 ∧
    b.cart.rom.ok b.cart.romLength ∧ b.cart.ram.ok b.cart.ramSize

/-- The mode that a position in the frame has (R470, R471). -/
def modeAt (ly dot : Nat) : LcdMode :=
  if 144 ≤ ly then .vblank else if dot < 80 then .oamScan else if dot < 252 then .transfer else .hblank

/-- The display's position and mode between steps (R471 while it is on, R473 while it is off). -/
abbrev Lcd.positionOk (d : Lcd) : Prop :=
  if d.enabled = true then d.ly.toNat ≤ 153 ∧ d.dot ≤ 455 ∧ d.mode = modeAt d.ly.toNat d.dot
  else d.ly = 0 ∧ d.dot = 0 ∧ d.mode = .hblank

/-- A frame buffer has 144 rows of 160 shades (R51). -/
abbrev Frame.shaped (f : Frame) : Prop := f.length = 144 ∧ ∀ row ∈ f, row.length = 160

/-- The display between steps: its position and mode, and the shape of its frame buffers. -/
abbrev Lcd.ok (d : Lcd) : Prop := d.positionOk ∧ d.fbWork.shaped ∧ d.fbFront.shaped

/-- The eleven illegal opcode bytes (R152). -/
def illegalBytes : List Byte := [0xD3, 0xDB, 0xDD, 0xE3, 0xE4, 0xEB, 0xEC, 0xED, 0xF4, 0xFC, 0xFD]

/-- What a fatal record says of the state it stands in (R400, R401): it names the byte at PC, and the kind is the one that
byte causes. -/
abbrev FatalRecord.ok (r : FatalRecord) (s : State) : Prop :=
  r.addr = s.pc ∧ r.op = s.read s.pc ∧
    match r.kind with
    | .invalidOpcode => r.op ∈ illegalBytes
    | .unimplementedOpcode => r.op = 0x10 ∧ s.params.stopPolicy = .fatal

/-- The control state between steps: STOPPED needs `low_power` (R19), a pending HALT bug needs `HALT_BUG` and a CPU that did
not halt (R19, R421), the EI delay is at most 1 once EI's own step is over (R441), and there is a fatal record in FATAL,
about the byte at PC, and nowhere else (R400). -/
structure State.ControlOk (s : State) : Prop where
  stopped : s.ctl.runState = .stopped → s.params.stopPolicy = .lowPower
  haltBug : s.ctl.haltBugPending = true → s.params.haltBug = true ∧ s.ctl.runState ≠ .halted ∧ s.ctl.runState ≠ .stopped
  eiDelay : s.ctl.eiDelay ≤ 1
  fatal : s.ctl.runState = .fatal ↔ s.ctl.fatalRecord.isSome = true
  record : ∀ r, s.ctl.fatalRecord = some r → r.ok s

/-- The mapper's kind, without its registers (R80, R83 to R89). -/
def Mapper.kind : Mapper → Nat
  | .romOnly => 0
  | .mbc1 _ _ _ => 1
  | .mbc3 _ _ => 3
  | .mbc5 _ _ => 5

/-- A bank register whose write turns zero into one never holds zero (R84, R86). -/
def Mapper.bankNonzero : Mapper → Prop
  | .mbc1 bank1 _ _ => bank1 ≠ 0
  | .mbc3 romBank _ => romBank ≠ 0
  | .romOnly | .mbc5 _ _ => True

/-- What is fixed at load and stays so (R10, R27): the image, the configuration read from its header, the parameters. -/
structure SameCartridge (s t : State) : Prop where
  rom : t.bus.cart.rom = s.bus.cart.rom
  romLength : t.bus.cart.romLength = s.bus.cart.romLength
  romBanks : t.bus.cart.romBanks = s.bus.cart.romBanks
  ramSize : t.bus.cart.ramSize = s.bus.cart.ramSize
  kind : t.bus.cart.mapper.kind = s.bus.cart.mapper.kind
  params : t.params = s.params

/-! ### The claims' words for what an instruction does -/

/-- The instruction `i` is encoded as `bytes`, takes `cycles s` cycles in a state `s`, and COMPLETES: in every state `s`,
`exec i s` answers a next state `t` with `post s t`. -/
def Completes (i : Instr) (bytes : List Byte) (cycles : State → Nat) (post : State → State → Prop) : Prop :=
  encode i = bytes ∧ ∀ s : State, instrCycles i s = cycles s ∧ ∃ t, exec i s = .next t ∧ post s t

/-- The pair HL as the two registers it is made of (R12). -/
def State.hlAddr (s : State) : Addr := s.reg .h ++ s.reg .l

/-- The value of `R16[pp]`: two registers, the first in the high half, or SP (R12, R144). -/
def State.pairValue (s : State) : Reg16 → Addr
  | .bc => s.reg .b ++ s.reg .c
  | .de => s.reg .d ++ s.reg .e
  | .hl => s.reg .h ++ s.reg .l
  | .sp => s.sp

/-- The byte F: Z, N, H, C and four zeros (R13, R14). -/
def Flags.byte (f : Flags) : Byte :=
  BitVec.ofNat 8 (f.z.toNat * 128 + f.n.toNat * 64 + f.h.toNat * 32 + f.c.toNat * 16)

/-- The value of `R16S[pp]` (R12, R145). -/
def State.stackPairValue (s : State) : StackReg → Addr
  | .bc => s.reg .b ++ s.reg .c
  | .de => s.reg .d ++ s.reg .e
  | .hl => s.reg .h ++ s.reg .l
  | .af => s.reg .a ++ s.flags.byte

/-- The value an 8-bit operand code names (R143). -/
def State.operandValue (s : State) : Operand8 → Byte
  | .reg r => s.reg r
  | .memHl => s.read s.hlAddr

/-- Whether `CC[cc]` holds on the flags of a state (R146, R320). -/
def State.holds (s : State) : Cond → Bool
  | .nz => s.flags.z == false
  | .z => s.flags.z == true
  | .nc => s.flags.c == false
  | .c => s.flags.c == true

/-- `t` differs from `s` on the bus by the store of `v` to `a`; where the memories are in form, every address the store does
not reach reads as before, and `a` reads `v` where it stores bytes. -/
structure Stores (a : Addr) (v : Byte) (s t : State) : Prop where
  bus : t.bus = s.bus.write a v
  frame : s.bus.memoriesOk → ∀ x, s.bus.reaches a x = false → t.read x = s.read x
  stored : s.bus.memoriesOk → s.bus.storesByte a = true → t.read a = v

/-- `t` differs from `s` on the bus by two stores, `v` to `a` and then `w` to `c`; where the memories are in form, every
address neither store reaches reads as before. -/
structure StoresTwo (a : Addr) (v : Byte) (c : Addr) (w : Byte) (s t : State) : Prop where
  bus : t.bus = (s.bus.write a v).write c w
  frame : s.bus.memoriesOk → ∀ x, s.bus.reaches a x = false → (s.bus.write a v).reaches c x = false → t.read x = s.read x

/-- `t` differs from `s` by pushing `v` (R7, R74, R76): the high byte at SP - 1, then the low byte at SP - 2, SP two lower. -/
structure Pushes (v : Addr) (s t : State) : Prop extends
    StoresTwo (s.sp - 1) (v.extractLsb' 8 8) (s.sp - 2) (v.extractLsb' 0 8) s t where
  sp : t.sp = s.sp - 2
  regs : OnlyRegs [] s t
  flags : t.flags = s.flags

/-- `t` has `v` in an 8-bit operand and is otherwise as `s` in the registers, SP and memory. -/
def WritesOperand (x : Operand8) (v : Byte) (s t : State) : Prop :=
  t.sp = s.sp ∧
  match x with
  | .reg r => t.reg r = v ∧ OnlyRegs [r] s t ∧ t.bus = s.bus
  | .memHl => Stores s.hlAddr v s t ∧ OnlyRegs [] s t

/-- A has `v`; every other register, SP and memory are as in `s`; `len` bytes long. -/
structure WritesA (v : Byte) (len : Nat) (s t : State) : Prop extends Advances len s t where
  a : t.reg .a = v
  regs : OnlyRegs [.a] s t
  sp : t.sp = s.sp
  bus : t.bus = s.bus

/-- `Add8` of R250 on A, `v` and a carry-in, on unbounded numbers: the sum modulo 256, Z, N = 0, the carries out of bits 3
and 7. -/
def AddsToA (v : Byte) (carry : Nat) (len : Nat) (s t : State) : Prop :=
  let a := (s.reg .a).toNat
  let sum := a + v.toNat + carry
  WritesA (BitVec.ofNat 8 sum) len s t ∧
    t.flags = ⟨decide (sum % 256 = 0), false, decide (a % 16 + v.toNat % 16 + carry > 0xF), decide (sum > 0xFF)⟩

/-- The flags of `Sub8` of R250 on A, `v` and a borrow-in, on integers: Z, N = 1, the borrows into bit 4 and out of bit 7. -/
def subtractFlags (s : State) (v : Byte) (borrow : Nat) : Flags :=
  let a := (s.reg .a).toNat
  ⟨decide (((a : Int) - v.toNat - borrow) % 256 = 0), true, decide (a % 16 < v.toNat % 16 + borrow),
    decide (a < v.toNat + borrow)⟩

/-- `Sub8` of R250 on A, `v` and a borrow-in: the difference modulo 256 in A, and the flags. -/
def SubtractsFromA (v : Byte) (borrow : Nat) (len : Nat) (s t : State) : Prop :=
  WritesA (BitVec.ofInt 8 ((s.reg .a).toNat - v.toNat - borrow : Int)) len s t ∧ t.flags = subtractFlags s v borrow

/-- A logic result: `v` in A, Z from it, N = 0, H the constant `h`, C = 0 (R250). -/
def LogicToA (v : Byte) (h : Bool) (len : Nat) (s t : State) : Prop :=
  WritesA v len s t ∧ t.flags = ⟨decide (v = 0), false, h, false⟩

/-- The value after a rotate or shift of the 0xCB page, as a number (R301 to R308). -/
def shiftedNat (op : ShiftOp) (v : Nat) (carry : Nat) : Nat :=
  match op with
  | .rlc => (2 * v) % 256 + v / 128
  | .rrc => v / 2 + 128 * (v % 2)
  | .rl => (2 * v) % 256 + carry
  | .rr => v / 2 + 128 * carry
  | .sla => (2 * v) % 256
  | .sra => v / 2 + 128 * (v / 128)
  | .swap => 16 * (v % 16) + v / 16
  | .srl => v / 2

/-- The bit a rotate or shift moves out, into C; none for SWAP (R301 to R308). -/
def shiftedOut (op : ShiftOp) (v : Nat) : Bool :=
  match op with
  | .rlc | .rl | .sla => decide (v / 128 = 1)
  | .rrc | .rr | .sra | .srl => decide (v % 2 = 1)
  | .swap => false

/-- `t` is at `target`, and nothing else differs from `s` but a HALT bug used up by the fetch. -/
structure JumpsTo (target : Addr) (s t : State) : Prop extends KeepsControl s t, KeepsRegs s t where
  pc : t.pc = target
  bus : t.bus = s.bus

/-- `t` is past the instruction, and nothing else differs from `s` but a HALT bug used up by the fetch. -/
structure PassesOver (len : Nat) (s t : State) : Prop extends Advances len s t, KeepsRegs s t where
  bus : t.bus = s.bus

/-- `t` is at `target`, with the address after the `len` bytes of the instruction pushed (R326, R333). -/
structure CallsTo (target : Addr) (len : Nat) (s t : State) : Prop extends KeepsControl s t, Pushes (s.pcAfter len) s t where
  pc : t.pc = target

/-- `t` is at the address that stands on the stack, low byte at SP (R328): SP two higher, registers and memory as in `s`. -/
structure ReturnsFrom (s t : State) : Prop where
  pc : t.pc = s.read (s.sp + 1) ++ s.read s.sp
  sp : t.sp = s.sp + 2
  regs : OnlyRegs [] s t
  flags : t.flags = s.flags
  bus : t.bus = s.bus
  params : t.params = s.params
  input : t.input = s.input

/-- A state whose next step fetches: `s` before a system instruction changes the control state to `ctl` (R340 to R344). -/
structure ChangesControlTo (ctl : Control) (len : Nat) (s t : State) : Prop extends KeepsRegs s t where
  ctl : t.ctl = ctl
  pc : t.pc = s.pcAfter len
  bus : t.bus = s.bus
  params : t.params = s.params
  input : t.input = s.input

/-- `t` is `s` after `raise Fatal(kind, PC, op)` by the instruction that began in `s` (R400): FATAL, the record about the
byte at PC, and nothing else changed. -/
def RaisesFatal (kind : FatalKind) (op : Byte) (s t : State) : Prop :=
  t = { s with ctl := { s.ctl with runState := .fatal, fatalRecord := some ⟨kind, s.pc, op⟩ } }

/-! ### Interrupts and the cartridge in the words of the rules -/

/-- Interrupt `k` is pending and enabled (R411). -/
def Bus.candidate (b : Bus) (k : Nat) : Bool := decide (k < 5) && b.intEnable.getLsbD k && b.intFlag.getLsbD k

/-- Some interrupt is pending and enabled: `IE & IF & 0x1F != 0` (R411). -/
def Bus.anyCandidate (b : Bus) : Bool := (List.range 5).any b.candidate

/-- `RomByte(bank, addr)` (R82). -/
def Cart.lookupRom (c : Cart) (bank : Nat) (a : Addr) : Byte :=
  if bank % c.romBanks * 0x4000 + a.toNat % 0x4000 < c.romLength then
    c.rom.read (bank % c.romBanks * 0x4000 + a.toNat % 0x4000)
  else 0xFF

/-- The read of 0xA000-0xBFFF, given `ram_on` and the bank `k` (R90). -/
def Cart.lookupRam (c : Cart) (ramOn : Bool) (k : Nat) (a : Addr) : Byte :=
  if c.ramSize = 0 ∨ ramOn = false then 0xFF else c.ram.read ((k * 0x2000 + (a.toNat - 0xA000)) % c.ramSize)

/-- The write of 0xA000-0xBFFF, given `ram_on` and the bank `k` (R90). -/
def Cart.storeRam (c : Cart) (ramOn : Bool) (k : Nat) (a : Addr) (v : Byte) : Cart :=
  if c.ramSize = 0 ∨ ramOn = false then c
  else { c with ram := c.ram.write ((k * 0x2000 + (a.toNat - 0xA000)) % c.ramSize) v }

/-- What the three windows of a cartridge show: the two ROM banks, and whether RAM answers and with which bank. -/
structure ShowsBanks (b : Bus) (fixed switched : Nat) (ramOn : Bool) (ramBank : Nat) : Prop where
  fixed : ∀ a : Addr, a.toNat < 0x4000 → b.read a = b.cart.lookupRom fixed a
  switched : ∀ a : Addr, 0x4000 ≤ a.toNat → a.toNat < 0x8000 → b.read a = b.cart.lookupRom switched a
  ramRead : ∀ a : Addr, 0xA000 ≤ a.toNat → a.toNat < 0xC000 → b.read a = b.cart.lookupRam ramOn ramBank a
  ramWrite : ∀ (a : Addr) (v : Byte), 0xA000 ≤ a.toNat → a.toNat < 0xC000 →
    b.write a v = { b with cart := b.cart.storeRam ramOn ramBank a v }

/-- Every write to an address from `lo` up to but not including `hi` changes the cartridge by `f`, and nothing else. -/
def ControlWrites (b : Bus) (lo hi : Nat) (f : Byte → Cart) : Prop :=
  ∀ (a : Addr) (v : Byte), lo ≤ a.toNat → a.toNat < hi → b.write a v = { b with cart := f v }

/-! ### Time -/

/-- The period of TIMA in cycles, by TAC[1:0] (R37, R450). -/
def timerPeriod (tac : BitVec 3) : Nat :=
  match (tac.extractLsb' 0 2).toNat with
  | 0 => 1024
  | 1 => 16
  | 2 => 64
  | _ => 256

/-- The display's position in its frame, in dots from the start of line 0 (R470). -/
def Lcd.position (d : Lcd) : Nat := d.ly.toNat * 456 + d.dot

/-- The shade, as a number, that a palette register gives a colour number: its bits 2k+1:2k (R46). -/
def shadeNat (palette : Byte) (colour : Nat) : Nat := palette.toNat / 4 ^ colour % 4

/-- The colour number of a pixel of the tile whose 16 bytes begin at byte `offset` of VRAM, on numbers (R479): bit 7 - col of
the row's low byte, and twice that bit of its high byte. -/
def Bus.tileColour (b : Bus) (offset row col : Nat) : Nat :=
  (b.vram.read (offset + 2 * row)).toNat / 2 ^ (7 - col) % 2 + 2 * ((b.vram.read (offset + 2 * row + 1)).toNat / 2 ^ (7 - col) % 2)

/-- Whether the window covers a pixel (R475). -/
def Lcd.windowShows (d : Lcd) (ly x : Nat) : Bool :=
  d.lcdc.getLsbD 0 && d.lcdc.getLsbD 5 && decide (d.wy.toNat ≤ ly ∧ d.wx.toNat ≤ 166 ∧ d.wx.toNat ≤ x + 7)

/-- The colour number of background and window at a pixel, on numbers (R474, R475, R479): the tile that the map names at the
pixel's plane coordinates, unsigned from the start of VRAM or signed around its byte 0x1000. -/
def Bus.planeColour (b : Bus) (ly x : Nat) : Nat :=
  if b.lcd.lcdc.getLsbD 0 = true then
    let window := b.lcd.windowShows ly x
    let px := if window then x + 7 - b.lcd.wx.toNat else (x + b.lcd.scx.toNat) % 256
    let py := if window then b.lcd.windowLine.toNat else (ly + b.lcd.scy.toNat) % 256
    let map := if b.lcd.lcdc.getLsbD (if window then 6 else 3) then 0x1C00 else 0x1800
    let index := b.vram.read (map + 32 * (py / 8) + px / 8)
    b.tileColour (if b.lcd.lcdc.getLsbD 4 then 16 * index.toNat else ((0x1000 : Int) + 16 * index.toInt).toNat) (py % 8) (px % 8)
  else 0

/-- The shade at a pixel, on numbers (R474): the sprite's that shows there, unless it stands behind a plane colour that is not
0; else the plane's, which is shade 0 with LCDC[0] clear. -/
def Bus.shownShade (b : Bus) (ly x : Nat) : Nat :=
  let plane := if b.lcd.lcdc.getLsbD 0 = true then shadeNat b.lcd.bgp (b.planeColour ly x) else 0
  match b.spriteAt (b.lineSprites ly) ly x with
  | none => plane
  | some s =>
    if s.attr.getLsbD 7 = true ∧ b.planeColour ly x ≠ 0 then plane
    else shadeNat (if s.attr.getLsbD 4 then b.lcd.obp1 else b.lcd.obp0) (b.spriteColour s ly x).toNat

/-- Byte `j` of OAM entry `i`, as a number: 0 is Y, 1 is X, 2 the tile, 3 the attributes (R476). -/
def Bus.oamByte (b : Bus) (i j : Nat) : Nat := (b.oam.read (4 * i + j)).toNat

/-- OAM entry `i` as the four bytes it is (R97, R476). -/
def Bus.oamEntry (b : Bus) (i : Nat) : Sprite :=
  ⟨b.oamByte i 0, b.oamByte i 1, b.oam.read (4 * i + 2), b.oam.read (4 * i + 3)⟩

/-- The height of every sprite (R40, R476). -/
def Lcd.spriteRows (d : Lcd) : Nat := if d.lcdc.getLsbD 2 = true then 16 else 8

/-- OAM entry `i` touches line `ly` (R476). -/
def Bus.entryOnLine (b : Bus) (ly i : Nat) : Bool :=
  decide (b.oamByte i 0 ≤ ly + 16 ∧ ly + 16 < b.oamByte i 0 + b.lcd.spriteRows)

/-- OAM entry `i` is one of the first ten that touch line `ly` (R476). -/
def Bus.entryConsidered (b : Bus) (ly i : Nat) : Prop :=
  i < 40 ∧ b.entryOnLine ly i = true ∧ (List.range i).countP (b.entryOnLine ly) < 10

/-- The colour number that OAM entry `i` has at a pixel, on numbers, from its four bytes (R476): 0 outside its eight columns;
attribute bits 5 and 6 flip it; of 16 rows, the tile's even number is the upper half. -/
def Bus.entryColour (b : Bus) (ly x i : Nat) : Nat :=
  if b.oamByte i 1 ≤ x + 8 ∧ x + 8 < b.oamByte i 1 + 8 then
    let col := x + 8 - b.oamByte i 1
    let row := ly + 16 - b.oamByte i 0
    b.tileColour (16 * (if b.lcd.spriteRows = 16 then b.oamByte i 2 / 2 * 2 else b.oamByte i 2))
      (if b.oamByte i 3 / 64 % 2 = 1 then b.lcd.spriteRows - 1 - row else row)
      (if b.oamByte i 3 / 32 % 2 = 1 then 7 - col else col)
  else 0

/-- The packed pixel of a shade (R478), chosen by its number. -/
def packedPixel (p : PixelMap) (shade : Nat) : BitVec 32 :=
  match shade with
  | 0 => p.shade0
  | 1 => p.shade1
  | 2 => p.shade2
  | _ => p.shade3

/-! ### Loading -/

/-- The mapper, with its registers at reset, that a cartridge type byte declares: the codes of R80 and the values of R27. -/
inductive DeclaresMapper : Byte → Mapper → Prop where
  | romOnly {type : Byte} (h : type ∈ [0x00, 0x08, 0x09]) : DeclaresMapper type .romOnly
  | mbc1 {type : Byte} (h : type ∈ [0x01, 0x02, 0x03]) : DeclaresMapper type (.mbc1 1 0 false)
  | mbc3 {type : Byte} (h : type ∈ [0x0F, 0x10, 0x11, 0x12, 0x13]) : DeclaresMapper type (.mbc3 1 0)
  | mbc5 {type : Byte} (h : type ∈ [0x19, 0x1A, 0x1B, 0x1C, 0x1D, 0x1E]) : DeclaresMapper type (.mbc5 1 0)

/-- The cartridge types that the core supports (R80). -/
def supportedTypes : List Byte :=
  [0x00, 0x08, 0x09, 0x01, 0x02, 0x03, 0x0F, 0x10, 0x11, 0x12, 0x13, 0x19, 0x1A, 0x1B, 0x1C, 0x1D, 0x1E]

/-- The supported types that declare no RAM (R80). -/
def typesWithoutRam : List Byte := [0x00, 0x01, 0x0F, 0x11, 0x19, 0x1C]

/-- The RAM sizes of the codes 0 to 5 (R80). -/
def ramSizes : List Nat := [0, 2048, 8192, 32768, 131072, 65536]

/-- What a load failure says of the image, with its code (R81, R403). -/
def LoadFailure.explains (e : LoadFailure) (image : List Byte) : Prop :=
  match e with
  | .romTooSmall => e.code = 16 ∧ image.length < 0x8000
  | .unsupportedMapper => e.code = 17 ∧ image.getD 0x0147 0 ∉ supportedTypes
  | .badRomSizeCode => e.code = 18 ∧ 8 < (image.getD 0x0148 0).toNat
  | .badRamSizeCode => e.code = 19 ∧ 5 < (image.getD 0x0149 0).toNat

/-- The sound block at reset (R38): the bytes of 0xFF10 to 0xFF3F in order. -/
def soundBytes : List Byte :=
  [0x80, 0xBF, 0xF3, 0xFF, 0xBF, 0x00, 0x3F, 0x00, 0xFF, 0xBF, 0x7F, 0xFF, 0x9F, 0xFF, 0xBF, 0x00] ++
  [0xFF, 0x00, 0x00, 0xBF, 0x77, 0xF3, 0xF1, 0x00, 0x00, 0x00, 0x00, 0x00, 0x00, 0x00, 0x00, 0x00] ++
  List.replicate 16 0x00

/-- The values of every register and of the frame buffers right after a load (R501), whatever the cartridge and whatever the
memories of R26 hold. -/
structure ResetRegisters (s : State) : Prop where
  cpu : s.cpu = ⟨0x01, ⟨true, false, true, true⟩, 0x00, 0x13, 0x00, 0xD8, 0x01, 0x4D, 0xFFFE, 0x0100⟩
  ctl : s.ctl = ⟨false, 0, .running, false, none⟩
  interrupts : s.bus.intFlag = 0b00001 ∧ s.bus.intEnable = 0x00
  timer : s.bus.timer = ⟨0xAB00, 0x00, 0x00, 0b000⟩
  joypad : s.bus.joypad = ⟨0b00, 0x00⟩
  serial : s.bus.serial = ⟨0x00, 0x00⟩
  sound : (List.range 48).map s.bus.sound.read = soundBytes
  lcd : s.bus.lcd = ⟨0x91, 0b0000, 0x00, 0x00, 0x00, 0x00, 0xFF, 0xFC, 0xFF, 0xFF, 0x00, 0x00, 0, .oamScan, 0x00,
    List.replicate 144 (List.replicate 160 0), List.replicate 144 (List.replicate 160 0), 0⟩

/-- A state that is about to execute the instruction at PC: running, the host silent, no interrupt to dispatch (R441). -/
structure AboutToExecute (s : State) : Prop where
  running : s.ctl.runState = .running
  silent : s.input = []
  undisturbed : s.dispatches = false

end Machine

end Sys2Proof
end

