-- ==== Sys2Proof/Certificates/Slice0/Obligations.lean ====
section
/-! DEFINITION. The statements for the provers, in the order of the spec's files: encoding, each family of instructions, rules
over all instructions, the bus and the cartridge, exceptions and interrupts, the devices, reset, and the invariants. The
words they use are defined in Sys2Proof/Safety.lean. -/

open Sys2Proof Sys2Proof.Machine

/-! ### Encoding -/

/-- Decoding an encoded well-formed instruction gives it back, with whatever bytes follow (R140, R150, R151, R156). -/
def Obligations.DecodeInvertsEncode : Prop :=
  ∀ (i : Instr) (rest : List Byte), WellFormed i → decode (encode i ++ rest) = .ok (i, rest)

/-- Every three bytes begin with one well-formed instruction, and encoding it gives its bytes back, as many as its first
byte says (R150 to R153). -/
def Obligations.EncodeInvertsDecode : Prop :=
  ∀ b0 b1 b2 : Byte,
    WellFormed (decodeBytes b0 b1 b2) ∧ encode (decodeBytes b0 b1 b2) = [b0, b1, b2].take (lengthOfByte0 b0)

/-- A few words of the spec's encodings decode to the instructions they stand for (R200, R201, R209, R236, R251, R283, R309,
R327, R333, R341, R345). -/
def Obligations.SpecWordsDecode : Prop :=
  decode [0x41] = .ok (.ldBC, []) ∧
  decode [0x3E, 0x42] = .ok (.ldAN 0x42, []) ∧
  decode [0xFA, 0x34, 0xC2] = .ok (.ldAMemNn 0xC234, []) ∧
  decode [0xF5] = .ok (.pushAf, []) ∧
  decode [0x86] = .ok (.addAMemHl, []) ∧
  decode [0xE8, 0x80] = .ok (.addSpE 0x80, []) ∧
  decode [0xCB, 0x65] = .ok (.cbBit4L, []) ∧
  decode [0xD4, 0x00, 0x40] = .ok (.callNcNn 0x4000, []) ∧
  decode [0xEF] = .ok (.rst28, []) ∧
  decode [0x76] = .ok (.halt, []) ∧
  decode [0xDD] = .ok (.illegalDD, [])

/-- A step of a state about to execute runs the instruction that the bytes at PC decode to (R441, R442): byte 0 at PC and the
rest behind it, or, while the HALT bug is pending, byte 0 again as the first of the rest (R421). What follows it is
`afterExecute`: nothing after Fatal; else the EI bookkeeping (R416), and the devices advance by the instruction's cycles
unless it led to STOPPED (R440). -/
def Obligations.StepRunsDecodedInstruction : Prop :=
  ∀ (s : State) (i : Instr) (rest : List Byte), AboutToExecute s →
    decode (if s.ctl.haltBugPending then [s.read s.pc, s.read s.pc, s.read (s.pc + 1)]
      else [s.read s.pc, s.read (s.pc + 1), s.read (s.pc + 2)]) = .ok (i, rest) →
    (∀ t, exec i s = .next t → step s = .next (t.afterExecute (instrCycles i s))) ∧
    (∀ (t : State) (n : Nat), t.ctl.runState = .fatal → t.afterExecute n = t) ∧
    (∀ (t : State) (n : Nat), t.ctl.runState ≠ .fatal →
      t.afterExecute n = { t with
        ctl := { t.ctl with ime := t.ctl.ime || decide (t.ctl.eiDelay = 1), eiDelay := if t.ctl.eiDelay = 2 then 1 else 0 },
        bus := if t.ctl.runState = .stopped then t.bus else displayAdvance n (timerAdvance n t.bus) })

/-- The host's events before a step take effect, in order, before anything else of it (R490 (c), R440): a step with events at
the head of its input does and reports what the step without input does in the state they lead to, and leaves the rest of
the input for the steps to come. That the events stand in the state as one list a step is the model's choice (log entry 5). -/
def Obligations.HostEventsApplyBeforeTheStep : Prop :=
  ∀ (s : State) (events : List HostEvent) (later : List (List HostEvent)), s.ctl.runState ≠ .fatal →
    s.input = events :: later →
    (∃ t, step (events.foldl applyEvent { s with input := [] }) = .next t ∧ step s = .next { t with input := later }) ∧
    stepReport s = stepReport (events.foldl applyEvent { s with input := [] })

/-! ### 8-bit loads -/

/-- LD r,r' and LD r,n (R200, R201). -/
def Obligations.RegisterLoads : Prop :=
  (∀ dst r : Reg8, Completes (Instr.ldRegReg dst r) [0b01#2 ++ dst.code ++ r.code] (fun _ => 4) fun s t =>
    t.reg dst = s.reg r ∧ OnlyRegs [dst] s t ∧ t.sp = s.sp ∧ t.flags = s.flags ∧ t.bus = s.bus ∧ Advances 1 s t) ∧
  (∀ (r : Reg8) (n : Byte), Completes (Instr.ldRegImm r n) [0b00#2 ++ r.code ++ 0b110#3, n] (fun _ => 8) fun s t =>
    t.reg r = n ∧ OnlyRegs [r] s t ∧ t.sp = s.sp ∧ t.flags = s.flags ∧ t.bus = s.bus ∧ Advances 2 s t)

/-- The loads from memory (R202, R205, R206, R209, R213, R215) and those that step HL (R211, R212): the address is formed
from the registers as they were. -/
def Obligations.MemoryLoads : Prop :=
  (∀ r : Reg8, Completes (Instr.ldRegMemHl r) [0b01#2 ++ r.code ++ 0b110#3] (fun _ => 8) fun s t =>
    t.reg r = s.read (s.reg .h ++ s.reg .l) ∧ OnlyRegs [r] s t ∧ t.sp = s.sp ∧ t.flags = s.flags ∧ t.bus = s.bus ∧
      Advances 1 s t) ∧
  Completes (Instr.ldAPointer .bc) [0b00001010] (fun _ => 8) (fun s t =>
    WritesA (s.read (s.reg .b ++ s.reg .c)) 1 s t ∧ t.flags = s.flags) ∧
  Completes (Instr.ldAPointer .de) [0b00011010] (fun _ => 8) (fun s t =>
    WritesA (s.read (s.reg .d ++ s.reg .e)) 1 s t ∧ t.flags = s.flags) ∧
  (∀ nn : Addr, Completes (.ldAMemNn nn) (0b11111010 :: immediateBytes nn) (fun _ => 16) fun s t =>
    WritesA (s.read nn) 3 s t ∧ t.flags = s.flags) ∧
  Completes .ldhAMemC [0b11110010] (fun _ => 8) (fun s t =>
    WritesA (s.read (0xFF#8 ++ s.reg .c)) 1 s t ∧ t.flags = s.flags) ∧
  (∀ n : Byte, Completes (.ldhAMemN n) [0b11110000, n] (fun _ => 12) fun s t =>
    WritesA (s.read (0xFF#8 ++ n)) 2 s t ∧ t.flags = s.flags) ∧
  Completes (Instr.ldAHlStep .inc) [0b00101010] (fun _ => 8) (fun s t =>
    t.reg .a = s.read s.hlAddr ∧ t.hlAddr = s.hlAddr + 1 ∧ OnlyRegs [.a, .h, .l] s t ∧ t.sp = s.sp ∧
      t.flags = s.flags ∧ t.bus = s.bus ∧ Advances 1 s t) ∧
  Completes (Instr.ldAHlStep .dec) [0b00111010] (fun _ => 8) (fun s t =>
    t.reg .a = s.read s.hlAddr ∧ t.hlAddr = s.hlAddr - 1 ∧ OnlyRegs [.a, .h, .l] s t ∧ t.sp = s.sp ∧
      t.flags = s.flags ∧ t.bus = s.bus ∧ Advances 1 s t)

/-- The byte stores (R203, R204, R207, R208, R210, R214, R216) and those that step HL (R217, R218): the address is formed from
the registers as they were; every byte the store does not reach keeps its value. -/
def Obligations.ByteStores : Prop :=
  (∀ r : Reg8, Completes (Instr.ldMemHlReg r) [0b01110#5 ++ r.code] (fun _ => 8) fun s t =>
    Stores (s.reg .h ++ s.reg .l) (s.reg r) s t ∧ KeepsRegs s t ∧ Advances 1 s t) ∧
  (∀ n : Byte, Completes (.ldMemHlN n) [0b00110110, n] (fun _ => 12) fun s t =>
    Stores (s.reg .h ++ s.reg .l) n s t ∧ KeepsRegs s t ∧ Advances 2 s t) ∧
  Completes (Instr.ldPointerA .bc) [0b00000010] (fun _ => 8) (fun s t =>
    Stores (s.reg .b ++ s.reg .c) (s.reg .a) s t ∧ KeepsRegs s t ∧ Advances 1 s t) ∧
  Completes (Instr.ldPointerA .de) [0b00010010] (fun _ => 8) (fun s t =>
    Stores (s.reg .d ++ s.reg .e) (s.reg .a) s t ∧ KeepsRegs s t ∧ Advances 1 s t) ∧
  (∀ nn : Addr, Completes (.ldMemNnA nn) (0b11101010 :: immediateBytes nn) (fun _ => 16) fun s t =>
    Stores nn (s.reg .a) s t ∧ KeepsRegs s t ∧ Advances 3 s t) ∧
  Completes .ldhMemCA [0b11100010] (fun _ => 8) (fun s t =>
    Stores (0xFF#8 ++ s.reg .c) (s.reg .a) s t ∧ KeepsRegs s t ∧ Advances 1 s t) ∧
  (∀ n : Byte, Completes (.ldhMemNA n) [0b11100000, n] (fun _ => 12) fun s t =>
    Stores (0xFF#8 ++ n) (s.reg .a) s t ∧ KeepsRegs s t ∧ Advances 2 s t) ∧
  Completes (Instr.ldHlStepA .inc) [0b00100010] (fun _ => 8) (fun s t =>
    Stores s.hlAddr (s.reg .a) s t ∧ t.hlAddr = s.hlAddr + 1 ∧ OnlyRegs [.h, .l] s t ∧ t.sp = s.sp ∧
      t.flags = s.flags ∧ Advances 1 s t) ∧
  Completes (Instr.ldHlStepA .dec) [0b00110010] (fun _ => 8) (fun s t =>
    Stores s.hlAddr (s.reg .a) s t ∧ t.hlAddr = s.hlAddr - 1 ∧ OnlyRegs [.h, .l] s t ∧ t.sp = s.sp ∧
      t.flags = s.flags ∧ Advances 1 s t)

/-! ### 16-bit loads and the stack -/

/-- LD rr,nn, LD SP,HL and LD HL,SP+e (R230, R232, R233). -/
def Obligations.PairLoads : Prop :=
  (∀ (r : Reg16) (nn : Addr),
    Completes (Instr.ldPairImm r nn) ((0b00#2 ++ r.code ++ 0b0001#4) :: immediateBytes nn) (fun _ => 12) fun s t =>
      t.pairValue r = nn ∧ OnlyRegs r.regs s t ∧ (r ≠ .sp → t.sp = s.sp) ∧ t.flags = s.flags ∧ t.bus = s.bus ∧
        Advances 3 s t) ∧
  Completes .ldSpHl [0b11111001] (fun _ => 8) (fun s t =>
    t.sp = s.hlAddr ∧ OnlyRegs [] s t ∧ t.flags = s.flags ∧ t.bus = s.bus ∧ Advances 1 s t) ∧
  (∀ e : Byte, Completes (.ldHlSpE e) [0b11111000, e] (fun _ => 12) fun s t =>
    t.hlAddr = s.sp + e.signExtend 16 ∧ OnlyRegs [.h, .l] s t ∧ t.sp = s.sp ∧
      t.flags = ⟨false, false, decide (s.sp.toNat % 16 + e.toNat % 16 > 0xF),
        decide (s.sp.toNat % 256 + e.toNat > 0xFF)⟩ ∧
      t.bus = s.bus ∧ Advances 2 s t)

/-- LD (nn),SP stores the low byte of SP at nn and the high byte at nn + 1 (R231), and PUSH the high byte at SP - 1 and the low
byte at SP - 2 (R236). -/
def Obligations.WordStores : Prop :=
  (∀ nn : Addr, Completes (.ldMemNnSp nn) (0b00001000 :: immediateBytes nn) (fun _ => 20) fun s t =>
    StoresTwo nn (s.sp.extractLsb' 0 8) (nn + 1) (s.sp.extractLsb' 8 8) s t ∧ KeepsRegs s t ∧ Advances 3 s t) ∧
  (∀ r : StackReg, Completes (Instr.push r) [0b11#2 ++ r.code ++ 0b0101#4] (fun _ => 16) fun s t =>
    Pushes (s.stackPairValue r) s t ∧ Advances 1 s t)

/-- POP reads the low byte at SP and the high byte at SP + 1; POP AF writes the four flags and drops bits 3:0 (R237). -/
def Obligations.Pops : Prop :=
  (∀ r : StackReg, Completes (Instr.pop r) [0b11#2 ++ r.code ++ 0b0001#4] (fun _ => 12) fun s t =>
    t.sp = s.sp + 2 ∧ t.bus = s.bus ∧ Advances 1 s t ∧
    match r with
    | .bc => t.pairValue .bc = s.read (s.sp + 1) ++ s.read s.sp ∧ OnlyRegs [.b, .c] s t ∧ t.flags = s.flags
    | .de => t.pairValue .de = s.read (s.sp + 1) ++ s.read s.sp ∧ OnlyRegs [.d, .e] s t ∧ t.flags = s.flags
    | .hl => t.pairValue .hl = s.read (s.sp + 1) ++ s.read s.sp ∧ OnlyRegs [.h, .l] s t ∧ t.flags = s.flags
    | .af => t.reg .a = s.read (s.sp + 1) ∧ OnlyRegs [.a] s t ∧ t.flags.byte = s.read s.sp &&& 0xF0)

/-- A POP after a PUSH of the same pair restores it and SP, where the stack lies in bytes that read back what is stored and
are two different bytes (R237, corner cases). -/
def Obligations.PopRestoresWhatPushSaved : Prop :=
  ∀ (r : StackReg) (s t u : State), s.bus.memoriesOk →
    s.bus.storesByte (s.sp - 1) = true →
    (s.bus.write (s.sp - 1) ((s.stackPairValue r).extractLsb' 8 8)).storesByte (s.sp - 2) = true →
    (s.bus.write (s.sp - 1) ((s.stackPairValue r).extractLsb' 8 8)).reaches (s.sp - 2) (s.sp - 1) = false →
    exec (Instr.push r) s = .next t → exec (Instr.pop r) t = .next u →
    u.stackPairValue r = s.stackPairValue r ∧ u.sp = s.sp ∧ u.flags = s.flags ∧ OnlyRegs [] s u

/-! ### 8-bit arithmetic and logic -/

/-- ADD and ADC with a register, (HL) or an immediate (R251 to R256). -/
def Obligations.Additions : Prop :=
  (∀ x : Operand8, Completes (Instr.alu .add x) [0b10000#5 ++ x.code] (fun _ => if x = .memHl then 8 else 4) fun s t =>
    AddsToA (s.operandValue x) 0 1 s t) ∧
  (∀ n : Byte, Completes (Instr.aluImm .add n) [0b11000110, n] (fun _ => 8) fun s t => AddsToA n 0 2 s t) ∧
  (∀ x : Operand8, Completes (Instr.alu .adc x) [0b10001#5 ++ x.code] (fun _ => if x = .memHl then 8 else 4) fun s t =>
    AddsToA (s.operandValue x) s.flags.c.toNat 1 s t) ∧
  (∀ n : Byte, Completes (Instr.aluImm .adc n) [0b11001110, n] (fun _ => 8) fun s t =>
    AddsToA n s.flags.c.toNat 2 s t)

/-- SUB, SBC and CP with a register, (HL) or an immediate (R257 to R262, R272 to R274): CP writes the flags of the
subtraction and leaves A alone. -/
def Obligations.Subtractions : Prop :=
  (∀ x : Operand8, Completes (Instr.alu .sub x) [0b10010#5 ++ x.code] (fun _ => if x = .memHl then 8 else 4) fun s t =>
    SubtractsFromA (s.operandValue x) 0 1 s t) ∧
  (∀ n : Byte, Completes (Instr.aluImm .sub n) [0b11010110, n] (fun _ => 8) fun s t => SubtractsFromA n 0 2 s t) ∧
  (∀ x : Operand8, Completes (Instr.alu .sbc x) [0b10011#5 ++ x.code] (fun _ => if x = .memHl then 8 else 4) fun s t =>
    SubtractsFromA (s.operandValue x) s.flags.c.toNat 1 s t) ∧
  (∀ n : Byte, Completes (Instr.aluImm .sbc n) [0b11011110, n] (fun _ => 8) fun s t =>
    SubtractsFromA n s.flags.c.toNat 2 s t) ∧
  (∀ x : Operand8, Completes (Instr.alu .cp x) [0b10111#5 ++ x.code] (fun _ => if x = .memHl then 8 else 4) fun s t =>
    WritesA (s.reg .a) 1 s t ∧ t.flags = subtractFlags s (s.operandValue x) 0) ∧
  (∀ n : Byte, Completes (Instr.aluImm .cp n) [0b11111110, n] (fun _ => 8) fun s t =>
    WritesA (s.reg .a) 2 s t ∧ t.flags = subtractFlags s n 0)

/-- AND, XOR and OR with a register, (HL) or an immediate (R263 to R271). -/
def Obligations.LogicOperations : Prop :=
  (∀ x : Operand8, Completes (Instr.alu .and x) [0b10100#5 ++ x.code] (fun _ => if x = .memHl then 8 else 4) fun s t =>
    LogicToA (s.reg .a &&& s.operandValue x) true 1 s t) ∧
  (∀ n : Byte, Completes (Instr.aluImm .and n) [0b11100110, n] (fun _ => 8) fun s t =>
    LogicToA (s.reg .a &&& n) true 2 s t) ∧
  (∀ x : Operand8, Completes (Instr.alu .xor x) [0b10101#5 ++ x.code] (fun _ => if x = .memHl then 8 else 4) fun s t =>
    LogicToA (s.reg .a ^^^ s.operandValue x) false 1 s t) ∧
  (∀ n : Byte, Completes (Instr.aluImm .xor n) [0b11101110, n] (fun _ => 8) fun s t =>
    LogicToA (s.reg .a ^^^ n) false 2 s t) ∧
  (∀ x : Operand8, Completes (Instr.alu .or x) [0b10110#5 ++ x.code] (fun _ => if x = .memHl then 8 else 4) fun s t =>
    LogicToA (s.reg .a ||| s.operandValue x) false 1 s t) ∧
  (∀ n : Byte, Completes (Instr.aluImm .or n) [0b11110110, n] (fun _ => 8) fun s t =>
    LogicToA (s.reg .a ||| n) false 2 s t)

/-- INC and DEC of a register or (HL): C is not written (R275 to R278). -/
def Obligations.ByteSteps : Prop :=
  (∀ x : Operand8, Completes (Instr.inc x) [0b00#2 ++ x.code ++ 0b100#3] (fun _ => if x = .memHl then 12 else 4)
    fun s t =>
      let v := s.operandValue x
      WritesOperand x (BitVec.ofNat 8 (v.toNat + 1)) s t ∧ Advances 1 s t ∧
        t.flags = ⟨decide (v = 0xFF), false, decide (v.toNat % 16 = 0xF), s.flags.c⟩) ∧
  (∀ x : Operand8, Completes (Instr.dec x) [0b00#2 ++ x.code ++ 0b101#3] (fun _ => if x = .memHl then 12 else 4)
    fun s t =>
      let v := s.operandValue x
      WritesOperand x (BitVec.ofNat 8 (v.toNat + 255)) s t ∧ Advances 1 s t ∧
        t.flags = ⟨decide (v = 0x01), true, decide (v.toNat % 16 = 0x0), s.flags.c⟩)

/-! ### 16-bit arithmetic -/

/-- ADD HL,rr keeps Z; INC rr and DEC rr write no flag; ADD SP,e takes H and C from the low byte (R280 to R283). -/
def Obligations.WordArithmetic : Prop :=
  (∀ r : Reg16, Completes (Instr.addHl r) [0b00#2 ++ r.code ++ 0b1001#4] (fun _ => 8) fun s t =>
    t.hlAddr = BitVec.ofNat 16 (s.hlAddr.toNat + (s.pairValue r).toNat) ∧ OnlyRegs [.h, .l] s t ∧ t.sp = s.sp ∧
      t.flags = ⟨s.flags.z, false, decide (s.hlAddr.toNat % 0x1000 + (s.pairValue r).toNat % 0x1000 > 0xFFF),
        decide (s.hlAddr.toNat + (s.pairValue r).toNat > 0xFFFF)⟩ ∧
      t.bus = s.bus ∧ Advances 1 s t) ∧
  (∀ r : Reg16, Completes (Instr.incPair r) [0b00#2 ++ r.code ++ 0b0011#4] (fun _ => 8) fun s t =>
    t.pairValue r = BitVec.ofNat 16 ((s.pairValue r).toNat + 1) ∧ OnlyRegs r.regs s t ∧ (r ≠ .sp → t.sp = s.sp) ∧
      t.flags = s.flags ∧ t.bus = s.bus ∧ Advances 1 s t) ∧
  (∀ r : Reg16, Completes (Instr.decPair r) [0b00#2 ++ r.code ++ 0b1011#4] (fun _ => 8) fun s t =>
    t.pairValue r = BitVec.ofNat 16 ((s.pairValue r).toNat + 65535) ∧ OnlyRegs r.regs s t ∧ (r ≠ .sp → t.sp = s.sp) ∧
      t.flags = s.flags ∧ t.bus = s.bus ∧ Advances 1 s t) ∧
  (∀ e : Byte, Completes (.addSpE e) [0b11101000, e] (fun _ => 16) fun s t =>
    t.sp = s.sp + e.signExtend 16 ∧ OnlyRegs [] s t ∧
      t.flags = ⟨false, false, decide (s.sp.toNat % 16 + e.toNat % 16 > 0xF),
        decide (s.sp.toNat % 256 + e.toNat > 0xFF)⟩ ∧
      t.bus = s.bus ∧ Advances 2 s t)

/-! ### Accumulator rotates, DAA, CPL, SCF, CCF -/

/-- RLCA, RRCA, RLA, RRA always clear Z (R290 to R293); CPL, SCF and CCF keep it (R295 to R297). -/
def Obligations.AccumulatorRotatesAndFlagOperations : Prop :=
  Completes .rlca [0b00000111] (fun _ => 4) (fun s t =>
    WritesA (BitVec.ofNat 8 (2 * (s.reg .a).toNat + (s.reg .a).toNat / 128)) 1 s t ∧
      t.flags = ⟨false, false, false, (s.reg .a).getLsbD 7⟩) ∧
  Completes .rrca [0b00001111] (fun _ => 4) (fun s t =>
    WritesA (BitVec.ofNat 8 ((s.reg .a).toNat / 2 + 128 * ((s.reg .a).toNat % 2))) 1 s t ∧
      t.flags = ⟨false, false, false, (s.reg .a).getLsbD 0⟩) ∧
  Completes .rla [0b00010111] (fun _ => 4) (fun s t =>
    WritesA (BitVec.ofNat 8 (2 * (s.reg .a).toNat + s.flags.c.toNat)) 1 s t ∧
      t.flags = ⟨false, false, false, (s.reg .a).getLsbD 7⟩) ∧
  Completes .rra [0b00011111] (fun _ => 4) (fun s t =>
    WritesA (BitVec.ofNat 8 ((s.reg .a).toNat / 2 + 128 * s.flags.c.toNat)) 1 s t ∧
      t.flags = ⟨false, false, false, (s.reg .a).getLsbD 0⟩) ∧
  Completes .cpl [0b00101111] (fun _ => 4) (fun s t =>
    WritesA (BitVec.ofNat 8 (255 - (s.reg .a).toNat)) 1 s t ∧ t.flags = ⟨s.flags.z, true, true, s.flags.c⟩) ∧
  Completes .scf [0b00110111] (fun _ => 4) (fun s t =>
    WritesA (s.reg .a) 1 s t ∧ t.flags = ⟨s.flags.z, false, false, true⟩) ∧
  Completes .ccf [0b00111111] (fun _ => 4) (fun s t =>
    WritesA (s.reg .a) 1 s t ∧ t.flags = ⟨s.flags.z, false, false, !s.flags.c⟩)

/-- DAA on every A, N, H and C (R294): after an addition the two corrections are chosen on A as it was, after a subtraction by
H and C alone; N is kept, H cleared. -/
def Obligations.DecimalAdjust : Prop :=
  Completes .daa [0b00100111] (fun _ => 4) fun s t =>
    let a := (s.reg .a).toNat
    let low := if s.flags.h = true ∨ (s.flags.n = false ∧ a % 16 > 9) then 0x06 else 0
    let high := if s.flags.c = true ∨ (s.flags.n = false ∧ a > 0x99) then 0x60 else 0
    WritesA (if s.flags.n = true then BitVec.ofNat 8 (a + 256 - (low + high)) else BitVec.ofNat 8 (a + (low + high))) 1 s t ∧
      t.flags = ⟨decide (t.reg .a = 0), s.flags.n, false, s.flags.c || (!s.flags.n && decide (a > 0x99))⟩

/-- Why DAA corrects (R294, the model's inference): after ADD or ADC of two packed BCD numbers, in every operand form, DAA
leaves the two BCD digits of their decimal sum modulo 100 in A, and C tells whether it passed 99. -/
def Obligations.DecimalAdjustAfterAdditionIsDecimal : Prop :=
  ∀ (op : AluOp) (i : Instr) (s t u : State) (y : Byte) (x1 x0 y1 y0 : Nat), op = .add ∨ op = .adc →
    i = Instr.aluImm op y ∨ (∃ x : Operand8, i = Instr.alu op x ∧ s.operandValue x = y) →
    x1 < 10 → x0 < 10 → y1 < 10 → y0 < 10 →
    s.reg .a = BitVec.ofNat 8 (16 * x1 + x0) → y = BitVec.ofNat 8 (16 * y1 + y0) →
    exec i s = .next t → exec .daa t = .next u →
    let sum := 10 * x1 + x0 + (10 * y1 + y0) + (if op = .adc then s.flags.c.toNat else 0)
    u.reg .a = BitVec.ofNat 8 (16 * (sum / 10 % 10) + sum % 10) ∧ u.flags.c = decide (sum > 99)

/-! ### The 0xCB page -/

/-- The eight rotates and shifts of the page on every operand: Z from the result, N = H = 0, C the bit shifted out (R301 to
R308). -/
def Obligations.PageRotatesAndShifts : Prop :=
  ∀ (op : ShiftOp) (x : Operand8), Completes (Instr.shift op x) [0b11001011, 0b00#2 ++ op.code ++ x.code]
    (fun _ => if x = .memHl then 16 else 8) fun s t =>
      let v := (s.operandValue x).toNat
      let res := shiftedNat op v s.flags.c.toNat
      WritesOperand x (BitVec.ofNat 8 res) s t ∧ Advances 2 s t ∧ t.flags = ⟨decide (res = 0), false, false, shiftedOut op v⟩

/-- BIT reads and writes no operand and keeps C (R309); RES and SET write no flag (R310, R311). -/
def Obligations.PageBitOperations : Prop :=
  (∀ (b : Fin 8) (x : Operand8), Completes (Instr.bit b x) [0b11001011, 0b01#2 ++ BitVec.ofNat 3 b.val ++ x.code]
    (fun _ => if x = .memHl then 12 else 8) fun s t =>
      t.flags = ⟨!(s.operandValue x).getLsbD b, false, true, s.flags.c⟩ ∧ OnlyRegs [] s t ∧ t.sp = s.sp ∧ t.bus = s.bus ∧
        Advances 2 s t) ∧
  (∀ (b : Fin 8) (x : Operand8), Completes (Instr.res b x) [0b11001011, 0b10#2 ++ BitVec.ofNat 3 b.val ++ x.code]
    (fun _ => if x = .memHl then 16 else 8) fun s t =>
      WritesOperand x (s.operandValue x &&& ~~~(1#8 <<< b.val)) s t ∧ t.flags = s.flags ∧ Advances 2 s t) ∧
  (∀ (b : Fin 8) (x : Operand8), Completes (Instr.set b x) [0b11001011, 0b11#2 ++ BitVec.ofNat 3 b.val ++ x.code]
    (fun _ => if x = .memHl then 16 else 8) fun s t =>
      WritesOperand x (s.operandValue x ||| (1#8 <<< b.val)) s t ∧ t.flags = s.flags ∧ Advances 2 s t)

/-- The prefix fetches one more byte and runs the instruction of the second table that it selects, in one step (R300). The
second clause is the model's choice (log entry 13): the row of the prefix alone, which is no instruction by itself (R141), has
a meaning, which does what the instruction its second byte selects does, and completes in every state. -/
def Obligations.PrefixRunsTheSecondTable : Prop :=
  (∀ b1 b2 : Byte, decodeBytes 0xCB b1 b2 = decodeCb b1 ∧ lengthOfByte0 0xCB = 2) ∧
  (∀ s : State, exec .prefixCb s = exec (decodeCb (s.operandByte 0)) s ∧
    instrCycles .prefixCb s = instrCycles (decodeCb (s.operandByte 0)) s ∧ ∃ t, exec .prefixCb s = .next t)

/-! ### Control transfer -/

/-- JP nn, JP cc,nn, JP HL, JR e, JR cc,e (R321 to R325): a transfer not taken passes over its operand bytes (R320). -/
def Obligations.Jumps : Prop :=
  (∀ nn : Addr, Completes (.jpNn nn) (0b11000011 :: immediateBytes nn) (fun _ => 16) fun s t => JumpsTo nn s t) ∧
  (∀ (cc : Cond) (nn : Addr), Completes (Instr.jpIf cc nn) ((0b110#3 ++ cc.code ++ 0b010#3) :: immediateBytes nn)
    (fun s => if s.holds cc then 16 else 12) fun s t => if s.holds cc then JumpsTo nn s t else PassesOver 3 s t) ∧
  Completes .jpHl [0b11101001] (fun _ => 4) (fun s t => JumpsTo (s.reg .h ++ s.reg .l) s t) ∧
  (∀ e : Byte, Completes (.jrE e) [0b00011000, e] (fun _ => 12) fun s t =>
    JumpsTo (s.pcAfter 2 + e.signExtend 16) s t) ∧
  (∀ (cc : Cond) (e : Byte), Completes (Instr.jrIf cc e) [0b001#3 ++ cc.code ++ 0b000#3, e]
    (fun s => if s.holds cc then 12 else 8) fun s t =>
      if s.holds cc then JumpsTo (s.pcAfter 2 + e.signExtend 16) s t else PassesOver 2 s t)

/-- CALL nn, CALL cc,nn and RST push the address after the instruction (R326, R327, R333). -/
def Obligations.CallsAndRestarts : Prop :=
  (∀ nn : Addr, Completes (.callNn nn) (0b11001101 :: immediateBytes nn) (fun _ => 24) fun s t => CallsTo nn 3 s t) ∧
  (∀ (cc : Cond) (nn : Addr), Completes (Instr.callIf cc nn) ((0b110#3 ++ cc.code ++ 0b100#3) :: immediateBytes nn)
    (fun s => if s.holds cc then 24 else 12) fun s t => if s.holds cc then CallsTo nn 3 s t else PassesOver 3 s t) ∧
  (∀ t8 : Fin 8, Completes (Instr.rst t8) [0b11#2 ++ BitVec.ofNat 3 t8.val ++ 0b111#3] (fun _ => 16) fun s t =>
    CallsTo (BitVec.ofNat 16 (8 * t8.val)) 1 s t)

/-- RET, RET cc and RETI take PC from the stack (R328, R329, R330); RETI sets IME at once and cancels an armed EI. -/
def Obligations.Returns : Prop :=
  Completes .ret [0b11001001] (fun _ => 16) (fun s t => ReturnsFrom s t ∧ t.ctl = { s.ctl with haltBugPending := false }) ∧
  (∀ cc : Cond, Completes (Instr.retIf cc) [0b110#3 ++ cc.code ++ 0b000#3] (fun s => if s.holds cc then 20 else 8)
    fun s t => if s.holds cc then ReturnsFrom s t ∧ t.ctl = { s.ctl with haltBugPending := false }
      else PassesOver 1 s t) ∧
  Completes .reti [0b11011001] (fun _ => 16) (fun s t =>
    ReturnsFrom s t ∧ t.ctl = { s.ctl with haltBugPending := false, ime := true, eiDelay := 0 })

/-! ### System instructions -/

/-- NOP, DI and EI (R340, R343, R344): DI acts at once, EI arms the delay. -/
def Obligations.NopAndInterruptEnable : Prop :=
  Completes .nop [0b00000000] (fun _ => 4) (fun s t => PassesOver 1 s t) ∧
  Completes .di [0b11110011] (fun _ => 4) (fun s t =>
    ChangesControlTo { s.ctl with haltBugPending := false, ime := false, eiDelay := 0 } 1 s t) ∧
  Completes .ei [0b11111011] (fun _ => 4) (fun s t =>
    ChangesControlTo { s.ctl with haltBugPending := false, eiDelay := 2 } 1 s t)

/-- HALT halts, unless `HALT_BUG` holds, IME is 0 and an enabled request is pending already (R341). -/
def Obligations.HaltInstruction : Prop :=
  Completes .halt [0b01110110] (fun _ => 4) fun s t =>
    if s.params.haltBug = true ∧ s.ctl.ime = false ∧ s.bus.anyCandidate = true then
      ChangesControlTo { s.ctl with haltBugPending := true } 1 s t
    else ChangesControlTo { s.ctl with haltBugPending := false, runState := .halted } 1 s t

/-- STOP by `STOP_POLICY` (R342): it raises Fatal(UnimplementedOpcode) under the default, and the step reports that instead of
a cycle count; under `low_power` it skips its second byte, whatever it is, zeroes the divider and stops, in 4 cycles. Where a
HALT bug is pending, that Fatal leaves PC at the byte, as R400 says, is the model's reading (log entry 8). -/
def Obligations.StopInstruction : Prop :=
  (∀ (n : Byte) (s : State), encode (.stop n) = [0b00010000, n] ∧
    (s.params.stopPolicy = .fatal → ∃ t, exec (.stop n) s = .next t ∧ RaisesFatal .unimplementedOpcode 0x10 s t) ∧
    (s.params.stopPolicy = .lowPower → instrCycles (.stop n) s = 4 ∧ ∃ t, exec (.stop n) s = .next t ∧ KeepsRegs s t ∧
      t.pc = s.pcAfter 2 ∧ t.ctl = { s.ctl with haltBugPending := false, runState := .stopped } ∧
      t.bus = { s.bus with timer := { s.bus.timer with divCounter := 0 } } ∧ t.params = s.params ∧ t.input = s.input)) ∧
  (∀ s : State, AboutToExecute s → s.read s.pc = 0x10 →
    stepReport s = if s.params.stopPolicy = .fatal then .fatal (some ⟨.unimplementedOpcode, s.pc, 0x10⟩) else .cycles 4)

/-- Each of the eleven illegal bytes raises Fatal(InvalidOpcode) and changes nothing but the run state and the record; the step
reports that instead of a cycle count, and no later step changes anything (R345). They are the bytes of R152. Where a HALT bug
is pending, that PC stays at the byte and the bug stays pending, as R400 says, is the model's reading (log entry 8), and so is
that a step in FATAL answers a next state (log entry 7). -/
def Obligations.IllegalOpcodes : Prop :=
  (∀ (op : IllegalByte) (s : State), encode (Instr.illegal op) = [op.byte] ∧
    ∃ t, exec (Instr.illegal op) s = .next t ∧ RaisesFatal .invalidOpcode op.byte s t ∧
      (∀ n, t.afterExecute n = t) ∧ step t = .next t) ∧
  (∀ b : Byte, (∃ op : IllegalByte, op.byte = b) ↔ b ∈ illegalBytes) ∧
  (∀ s : State, AboutToExecute s → s.read s.pc ∈ illegalBytes →
    stepReport s = .fatal (some ⟨.invalidOpcode, s.pc, s.read s.pc⟩))

/-! ### Rules over all instructions -/

/-- Nothing but the opcodes of R401 raises the exception (R401, R402): from a state that is not FATAL, an instruction leads to
FATAL exactly when it is an illegal byte, or STOP under the policy `fatal`. -/
def Obligations.OnlyNamedOpcodesAreFatal : Prop :=
  ∀ (i : Instr) (s t : State), exec i s = .next t → s.ctl.runState ≠ .fatal →
    (t.ctl.runState = .fatal ↔
      (∃ op : IllegalByte, i = Instr.illegal op) ∨ ((∃ n : Byte, i = .stop n) ∧ s.params.stopPolicy = .fatal))

/-- No instruction outside the table of R279 writes a flag. -/
def Obligations.OnlyListedInstructionsWriteFlags : Prop :=
  ∀ (i : Instr) (s t : State), exec i s = .next t → ¬ WritesFlag i → t.flags = s.flags

/-- What no instruction changes but those named (R15 to R19): IME only DI and RETI, the EI delay only DI, EI and RETI, SP only
the instructions of R16; and no instruction changes the parameters or the host's input. -/
def Obligations.ControlStateFrame : Prop :=
  ∀ (i : Instr) (s t : State), exec i s = .next t →
    (i ≠ .di → i ≠ .reti → t.ctl.ime = s.ctl.ime) ∧
    (i ≠ .di → i ≠ .ei → i ≠ .reti → t.ctl.eiDelay = s.ctl.eiDelay) ∧
    (¬ WritesSp i → t.sp = s.sp) ∧ t.params = s.params ∧ t.input = s.input

/-- An instruction that stores nothing leaves every memory, register of a device and mapper register as it was, so every
address reads as before. -/
def Obligations.NonStoringInstructionsKeepTheBus : Prop :=
  ∀ (i : Instr) (s t : State), exec i s = .next t → ¬ TouchesBus i →
    t.bus = s.bus ∧ ∀ a : Addr, t.read a = s.read a

/-! ### The bus and the cartridge -/

/-- A write changes the reading of no address it does not reach, and an address that stores bytes reads back what was written
(R71 to R73, R95 to R99): for every address written and every address read. -/
def Obligations.StoreChangesOnlyWhatItReaches : Prop :=
  ∀ (b : Bus) (a : Addr) (v : Byte), b.memoriesOk →
    (∀ x : Addr, b.reaches a x = false → (b.write a v).read x = b.read x) ∧
    (b.storesByte a = true → (b.write a v).read a = v)

/-- The address map outside the cartridge and the I/O registers (R73, R95 to R99, R116): where each range reads from, and what a
write stores; echo RAM is work RAM 0x2000 lower. -/
def Obligations.AddressMap : Prop :=
  ∀ (b : Bus) (a : Addr) (v : Byte),
    (0x8000 ≤ a.toNat → a.toNat < 0xA000 → b.read a = b.vram.read (a.toNat - 0x8000) ∧
      b.write a v = { b with vram := b.vram.write (a.toNat - 0x8000) v }) ∧
    (0xC000 ≤ a.toNat → a.toNat < 0xE000 → b.read a = b.wram.read (a.toNat - 0xC000) ∧
      b.write a v = { b with wram := b.wram.write (a.toNat - 0xC000) v }) ∧
    (0xE000 ≤ a.toNat → a.toNat < 0xFE00 → b.read a = b.wram.read (a.toNat - 0xE000) ∧ b.read a = b.read (a - 0x2000) ∧
      b.write a v = b.write (a - 0x2000) v) ∧
    (0xFE00 ≤ a.toNat → a.toNat < 0xFEA0 → b.read a = b.oam.read (a.toNat - 0xFE00) ∧
      b.write a v = { b with oam := b.oam.write (a.toNat - 0xFE00) v }) ∧
    (0xFEA0 ≤ a.toNat → a.toNat < 0xFF00 → b.read a = 0xFF ∧ b.write a v = b) ∧
    (0xFF80 ≤ a.toNat → a.toNat < 0xFFFF → b.read a = b.hram.read (a.toNat - 0xFF80) ∧
      b.write a v = { b with hram := b.hram.write (a.toNat - 0xFF80) v }) ∧
    (a.toNat = 0xFFFF → b.read a = b.intEnable ∧ b.write a v = { b with intEnable := v })

/-- The input, serial, timer, interrupt and sound registers, and the I/O addresses with no register (R110, R112 to R116, R118,
R127). -/
def Obligations.InputTimerInterruptRegisters : Prop :=
  ∀ (b : Bus) (v : Byte),
    ((b.read 0xFF00).toNat = 0xC0 + 16 * b.joypad.p1Select.toNat +
        ((0xF &&& (if b.joypad.p1Select.getLsbD 0 then 0xF else 15 - b.joypad.buttons.toNat % 16)) &&&
          (if b.joypad.p1Select.getLsbD 1 then 0xF else 15 - b.joypad.buttons.toNat / 16)) ∧
      b.write 0xFF00 v = { b with joypad := { b.joypad with p1Select := v.extractLsb' 4 2 } }) ∧
    (b.read 0xFF01 = b.serial.sb ∧ b.write 0xFF01 v = { b with serial := { b.serial with sb := v } }) ∧
    (b.read 0xFF02 = 0x7E ||| (b.serial.sc &&& 0x81) ∧
      b.write 0xFF02 v = { b with serial := { b.serial with sc := v &&& 0x81 } }) ∧
    ((b.read 0xFF04).toNat = b.timer.divCounter.toNat / 256 ∧
      b.write 0xFF04 v = { b with timer := { b.timer with divCounter := 0 } }) ∧
    (b.read 0xFF05 = b.timer.tima ∧ b.write 0xFF05 v = { b with timer := { b.timer with tima := v } }) ∧
    (b.read 0xFF06 = b.timer.tma ∧ b.write 0xFF06 v = { b with timer := { b.timer with tma := v } }) ∧
    ((b.read 0xFF07).toNat = 0xF8 + b.timer.tac.toNat ∧
      b.write 0xFF07 v = { b with timer := { b.timer with tac := v.extractLsb' 0 3 } }) ∧
    ((b.read 0xFF0F).toNat = 0xE0 + b.intFlag.toNat ∧ b.write 0xFF0F v = { b with intFlag := v.extractLsb' 0 5 }) ∧
    (b.read 0xFFFF = b.intEnable ∧ b.write 0xFFFF v = { b with intEnable := v }) ∧
    (∀ k : Nat, k < 48 → b.read (0xFF10 + BitVec.ofNat 16 k) = b.sound.read k ∧
      b.write (0xFF10 + BitVec.ofNat 16 k) v = { b with sound := b.sound.write k v }) ∧
    (∀ a : Addr, a = 0xFF03 ∨ (0xFF08 ≤ a.toNat ∧ a.toNat ≤ 0xFF0E) ∨ (0xFF4C ≤ a.toNat ∧ a.toNat ≤ 0xFF7F) →
      b.read a = 0xFF ∧ b.write a v = b)

/-- The display's registers but LCDC and DMA (R120 to R123, R125, R126): LY ignores writes, STAT shows the mode and the line
compare, and a write to STAT keeps bits 6:3 only. -/
def Obligations.DisplayRegisters : Prop :=
  ∀ (b : Bus) (v : Byte),
    ((b.read 0xFF41).toNat = 0x80 + 8 * b.lcd.statEn.toNat + (if b.lcd.ly = b.lcd.lyc then 4 else 0) +
        (match b.lcd.mode with | .hblank => 0 | .vblank => 1 | .oamScan => 2 | .transfer => 3) ∧
      b.write 0xFF41 v = { b with lcd := { b.lcd with statEn := v.extractLsb' 3 4 } }) ∧
    (b.read 0xFF42 = b.lcd.scy ∧ b.write 0xFF42 v = { b with lcd := { b.lcd with scy := v } }) ∧
    (b.read 0xFF43 = b.lcd.scx ∧ b.write 0xFF43 v = { b with lcd := { b.lcd with scx := v } }) ∧
    (b.read 0xFF44 = b.lcd.ly ∧ b.write 0xFF44 v = b) ∧
    (b.read 0xFF45 = b.lcd.lyc ∧ b.write 0xFF45 v = { b with lcd := { b.lcd with lyc := v } }) ∧
    (b.read 0xFF47 = b.lcd.bgp ∧ b.write 0xFF47 v = { b with lcd := { b.lcd with bgp := v } }) ∧
    (b.read 0xFF48 = b.lcd.obp0 ∧ b.write 0xFF48 v = { b with lcd := { b.lcd with obp0 := v } }) ∧
    (b.read 0xFF49 = b.lcd.obp1 ∧ b.write 0xFF49 v = { b with lcd := { b.lcd with obp1 := v } }) ∧
    (b.read 0xFF4A = b.lcd.wy ∧ b.write 0xFF4A v = { b with lcd := { b.lcd with wy := v } }) ∧
    (b.read 0xFF4B = b.lcd.wx ∧ b.write 0xFF4B v = { b with lcd := { b.lcd with wx := v } })

/-- A write to DMA stores the byte and copies 160 bytes, read through the bus, into OAM; nothing else changes (R124). -/
def Obligations.SpriteDmaCopies : Prop :=
  ∀ (b : Bus) (v : Byte), b.memoriesOk →
    (b.write 0xFF46 v).read 0xFF46 = v ∧
    (∀ i : Nat, i < 160 →
      (b.write 0xFF46 v).oam.read i =
        ({ b with lcd := { b.lcd with dma := v } } : Bus).read (BitVec.ofNat 16 (256 * v.toNat + i))) ∧
    b.write 0xFF46 v = { b with lcd := { b.lcd with dma := v }, oam := (b.write 0xFF46 v).oam }

/-- A cartridge without banking (R83, R82, R90): banks 0 and 1, control writes ignored, RAM always on. An MBC1 cartridge (R84,
R85, R82, R90): the bank registers and what they select; a zero written to `bank1` becomes one. -/
def Obligations.RomOnlyAndMbc1Cartridges : Prop :=
  (∀ b : Bus, b.cart.mapper = .romOnly → ShowsBanks b 0 1 true 0 ∧ ControlWrites b 0 0x8000 (fun _ => b.cart)) ∧
  (∀ (b : Bus) (bank1 : BitVec 5) (bank2 : BitVec 2) (mode : Bool), b.cart.mapper = .mbc1 bank1 bank2 mode →
    ShowsBanks b (if mode then 32 * bank2.toNat else 0) (32 * bank2.toNat + bank1.toNat) b.cart.ramEnable
      (if mode then bank2.toNat else 0) ∧
    ControlWrites b 0 0x2000 (fun v => { b.cart with ramEnable := decide (v.toNat % 16 = 0xA) }) ∧
    ControlWrites b 0x2000 0x4000 (fun v => { b.cart with
      mapper := .mbc1 (if v.toNat % 32 = 0 then 1 else v.extractLsb' 0 5) bank2 mode }) ∧
    ControlWrites b 0x4000 0x6000 (fun v => { b.cart with mapper := .mbc1 bank1 (v.extractLsb' 0 2) mode }) ∧
    ControlWrites b 0x6000 0x8000 (fun v => { b.cart with mapper := .mbc1 bank1 bank2 (v.getLsbD 0) }))

/-- An MBC3 cartridge without a clock (R86, R87, R82, R90): with a clock register or an unassigned code selected, RAM does not
answer. An MBC5 cartridge (R88, R89, R82, R90): a nine-bit ROM bank written in two parts, with no adjustment of zero. -/
def Obligations.Mbc3AndMbc5Cartridges : Prop :=
  (∀ (b : Bus) (romBank : BitVec 7) (ramSel : BitVec 4), b.cart.mapper = .mbc3 romBank ramSel →
    ShowsBanks b 0 romBank.toNat (b.cart.ramEnable && decide (ramSel.toNat ≤ 3)) ramSel.toNat ∧
    ControlWrites b 0 0x2000 (fun v => { b.cart with ramEnable := decide (v.toNat % 16 = 0xA) }) ∧
    ControlWrites b 0x2000 0x4000 (fun v => { b.cart with
      mapper := .mbc3 (if v.toNat % 128 = 0 then 1 else v.extractLsb' 0 7) ramSel }) ∧
    ControlWrites b 0x4000 0x6000 (fun v => { b.cart with mapper := .mbc3 romBank (v.extractLsb' 0 4) }) ∧
    ControlWrites b 0x6000 0x8000 (fun _ => b.cart)) ∧
  (∀ (b : Bus) (romBank : BitVec 9) (ramBank : BitVec 4), b.cart.mapper = .mbc5 romBank ramBank →
    ShowsBanks b 0 romBank.toNat b.cart.ramEnable ramBank.toNat ∧
    ControlWrites b 0 0x2000 (fun v => { b.cart with ramEnable := decide (v.toNat % 16 = 0xA) }) ∧
    ControlWrites b 0x2000 0x3000 (fun v => { b.cart with
      mapper := .mbc5 (BitVec.ofNat 9 (romBank.toNat / 256 * 256 + v.toNat)) ramBank }) ∧
    ControlWrites b 0x3000 0x4000 (fun v => { b.cart with
      mapper := .mbc5 (BitVec.ofNat 9 (v.toNat % 2 * 256 + romBank.toNat % 256)) ramBank }) ∧
    ControlWrites b 0x4000 0x6000 (fun v => { b.cart with mapper := .mbc5 romBank (v.extractLsb' 0 4) }) ∧
    ControlWrites b 0x6000 0x8000 (fun _ => b.cart))

/-! ### Exceptions, interrupts and the run states -/

/-- Taking the exception and the state it leads to (R400): a step that raises Fatal advances no device and answers the record;
every later step changes nothing and answers the same record. That such a step answers a next state is the model's reading
(log entry 7), and so is, where a HALT bug is pending, that PC stays at the byte and the bug stays pending (log entry 8). -/
def Obligations.FatalStateIsFinal : Prop :=
  (∀ s : State, s.ctl.runState = .fatal → step s = .next s ∧ stepReport s = .fatal s.ctl.fatalRecord) ∧
  (∀ s : State, AboutToExecute s → s.read s.pc ∈ illegalBytes →
    ∃ t, step s = .next t ∧ RaisesFatal .invalidOpcode (s.read s.pc) s t ∧
      stepReport s = .fatal (some ⟨.invalidOpcode, s.pc, s.read s.pc⟩)) ∧
  (∀ s : State, AboutToExecute s → s.read s.pc = 0x10 → s.params.stopPolicy = .fatal →
    ∃ t, step s = .next t ∧ RaisesFatal .unimplementedOpcode 0x10 s t ∧
      stepReport s = .fatal (some ⟨.unimplementedOpcode, s.pc, 0x10⟩))

/-- Interrupt dispatch (R412, R413): with IME set, the lowest-numbered candidate `k` is taken, also out of HALTED (R420): IME,
the EI delay and IF[k] are cleared, PC is pushed, PC becomes 0x0040 + 8k, and the devices advance by 20 cycles. That a HALT bug
stays pending through it is the model's reading (log entry 9). -/
def Obligations.InterruptDispatch : Prop :=
  ∀ (s : State) (k : Nat), s.ctl.runState = .running ∨ s.ctl.runState = .halted → s.input = [] → s.ctl.ime = true →
    s.bus.candidate k = true → (∀ j, j < k → s.bus.candidate j = false) →
    ∃ t u : State, step s = .next t ∧
      t.bus = displayAdvance 20 (timerAdvance 20 u.bus) ∧
      Pushes s.pc { s with bus := { s.bus with intFlag := s.bus.intFlag &&& ~~~(1#5 <<< k) } } u ∧
      t.cpu = u.cpu ∧ t.pc = BitVec.ofNat 16 (0x40 + 8 * k) ∧
      t.ctl = { s.ctl with ime := false, eiDelay := 0, runState := .running } ∧
      t.params = s.params ∧ t.input = s.input ∧ stepReport s = .cycles 20

/-- HALTED (R420): with no candidate a step changes no CPU state and lets the devices run for 4 cycles; with one and IME clear
it runs the instruction at PC as a running CPU would, and nothing is dispatched or cleared. STOPPED (R422, R460): a step
changes nothing and takes 4 cycles, and only a press of a released button whose group is selected ends it. -/
def Obligations.HaltedAndStoppedStates : Prop :=
  (∀ s : State, s.ctl.runState = .halted → s.input = [] → s.bus.anyCandidate = false →
    step s = .next { s with bus := displayAdvance 4 (timerAdvance 4 s.bus) } ∧ stepReport s = .cycles 4) ∧
  (∀ s : State, s.ctl.runState = .halted → s.input = [] → s.bus.anyCandidate = true → s.ctl.ime = false →
    step s = step { s with ctl := { s.ctl with runState := .running } } ∧
    AboutToExecute { s with ctl := { s.ctl with runState := .running } }) ∧
  (∀ s : State, s.ctl.runState = .stopped → s.input = [] → step s = .next s ∧ stepReport s = .cycles 4) ∧
  (∀ (s : State) (event : HostEvent), s.ctl.runState = .stopped →
    ((applyEvent s event).ctl.runState = .running ↔
      ∃ button : Button, event = .press button ∧ s.bus.joypad.buttons.getLsbD button.bit = false ∧
        s.bus.joypad.p1Select.getLsbD (if button.bit.val < 4 then 0 else 1) = false) ∧
    ((applyEvent s event).ctl.runState = .running ∨ (applyEvent s event).ctl.runState = .stopped))

/-- The EI delay (R416, R344): the step of an EI leaves IME as it was and the delay at 1; the step of the next instruction, if
it is not DI or EI and raises nothing, ends with IME set and the delay at 0. -/
def Obligations.InterruptsAreEnabledAfterTheNextInstruction : Prop :=
  (∀ s : State, AboutToExecute s → s.read s.pc = 0xFB →
    ∃ t, step s = .next t ∧ t.ctl.ime = s.ctl.ime ∧ t.ctl.eiDelay = 1 ∧ t.pc = s.pcAfter 1) ∧
  (∀ (s t : State), AboutToExecute s → s.ctl.eiDelay = 1 → s.read s.pc ≠ 0xF3 → s.read s.pc ≠ 0xFB →
    step s = .next t → t.ctl.runState ≠ .fatal → t.ctl.ime = true ∧ t.ctl.eiDelay = 0) ∧
  (∀ s : State, AboutToExecute s → s.read s.pc = 0xF3 →
    ∃ t, step s = .next t ∧ t.ctl.ime = false ∧ t.ctl.eiDelay = 0)

/-! ### Devices -/

/-- The divider and the timer (R450, R451): the advance is one tick for each cycle; the divider counts every cycle; a stopped
timer leaves TIMA and IF alone; a running one increments TIMA exactly at the tick that makes the divider a multiple of the
period, and on overflow reloads TMA and requests the timer interrupt. -/
def Obligations.DividerDrivesTheTimer : Prop :=
  (∀ (n : Nat) (b : Bus), timerAdvance 0 b = b ∧ timerAdvance (n + 1) b = timerAdvance n (timerTick b)) ∧
  (∀ (n : Nat) (b : Bus), (timerAdvance n b).timer.divCounter = b.timer.divCounter + BitVec.ofNat 16 n) ∧
  (∀ (n : Nat) (b : Bus), b.timer.tac.getLsbD 2 = false →
    timerAdvance n b = { b with timer := { b.timer with divCounter := b.timer.divCounter + BitVec.ofNat 16 n } }) ∧
  (∀ b : Bus, b.timer.tac.getLsbD 2 = true → (b.timer.divCounter.toNat + 1) % timerPeriod b.timer.tac ≠ 0 →
    timerTick b = { b with timer := { b.timer with divCounter := b.timer.divCounter + 1 } }) ∧
  (∀ b : Bus, b.timer.tac.getLsbD 2 = true → (b.timer.divCounter.toNat + 1) % timerPeriod b.timer.tac = 0 →
    timerTick b = if b.timer.tima = 0xFF then
        { b with timer := { b.timer with divCounter := b.timer.divCounter + 1, tima := b.timer.tma },
                 intFlag := b.intFlag ||| 0b00100 }
      else { b with timer := { b.timer with divCounter := b.timer.divCounter + 1, tima := b.timer.tima + 1 } })

/-- Frame cadence (R470, R471): the advance is one dot for each cycle; whether the display is on or off, it changes only its own
position, mode, window counter, frames and generation, and raises no request but bits 0 and 1 of IF; from any position of a
display that is on, after `n` cycles the position is `n` dots later in a frame of 70224, the mode is the one of that position,
and `generation` has grown by the number of times line 144 began; it grew exactly when the V-blank request was raised. -/
def Obligations.DisplayFollowsItsFrame : Prop :=
  (∀ (n : Nat) (b : Bus), displayAdvance 0 b = b ∧ displayAdvance (n + 1) b = displayAdvance n (displayDot b)) ∧
  (∀ (n : Nat) (b : Bus),
    let after := displayAdvance n b
    after = { b with lcd := after.lcd, intFlag := after.intFlag } ∧
    after.lcd = { b.lcd with
      ly := after.lcd.ly, dot := after.lcd.dot, mode := after.lcd.mode, windowLine := after.lcd.windowLine,
      fbWork := after.lcd.fbWork, fbFront := after.lcd.fbFront, generation := after.lcd.generation } ∧
    (∀ k, b.intFlag.getLsbD k = true → after.intFlag.getLsbD k = true) ∧
    (∀ k, 2 ≤ k → after.intFlag.getLsbD k = b.intFlag.getLsbD k)) ∧
  (∀ (n : Nat) (b : Bus), b.lcd.enabled = true → b.lcd.positionOk →
    (displayAdvance n b).lcd.position = (b.lcd.position + n) % 70224 ∧
    (displayAdvance n b).lcd.positionOk ∧
    (displayAdvance n b).lcd.generation + (b.lcd.position + 4560) / 70224 =
      b.lcd.generation + (b.lcd.position + n + 4560) / 70224 ∧
    (displayAdvance n b).intFlag.getLsbD 0 =
      (b.intFlag.getLsbD 0 || decide ((displayAdvance n b).lcd.generation ≠ b.lcd.generation)))

/-- LCDC and switching the display (R119, R473): off, it stands at line 0, dot 0, mode 0 with both frames blank and does nothing; on, it
begins at line 0, dot 0, mode 2; neither requests an interrupt or changes `generation`. -/
def Obligations.DisplaySwitching : Prop :=
  (∀ b : Bus, b.read 0xFF40 = b.lcd.lcdc) ∧
  (∀ (b : Bus) (v : Byte), b.lcd.enabled = true → v.getLsbD 7 = false →
    b.write 0xFF40 v = { b with lcd := { b.lcd with
      lcdc := v, ly := 0, dot := 0, mode := .hblank, windowLine := 0,
      fbWork := List.replicate 144 (List.replicate 160 0), fbFront := List.replicate 144 (List.replicate 160 0) } }) ∧
  (∀ (b : Bus) (v : Byte), b.lcd.enabled = false → v.getLsbD 7 = true →
    b.write 0xFF40 v = { b with lcd := { b.lcd with lcdc := v, ly := 0, dot := 0, mode := .oamScan, windowLine := 0 } }) ∧
  (∀ (b : Bus) (v : Byte), b.lcd.enabled = v.getLsbD 7 →
    b.write 0xFF40 v = { b with lcd := { b.lcd with lcdc := v } }) ∧
  (∀ (n : Nat) (b : Bus), b.lcd.enabled = false → displayAdvance n b = b)

/-- The display-status requests (R471, R472): one cycle of the display sets IF[1] exactly when it changes the mode to one
whose STAT condition is enabled (bit 3 for H-blank, 4 for V-blank, 5 for OAM-scan) or gives LY a new value equal to LYC with
STAT bit 6 set; it clears nothing, and changes no other request bit but V-blank's. -/
def Obligations.DisplayStatusRequests : Prop :=
  ∀ b : Bus, b.lcd.positionOk →
    let after := (displayDot b).lcd
    (displayDot b).intFlag.getLsbD 1 = (b.intFlag.getLsbD 1 ||
      decide (after.mode ≠ b.lcd.mode ∧ after.mode = .hblank) && b.lcd.statEn.getLsbD 0 ||
      decide (after.mode ≠ b.lcd.mode ∧ after.mode = .vblank) && b.lcd.statEn.getLsbD 1 ||
      decide (after.mode ≠ b.lcd.mode ∧ after.mode = .oamScan) && b.lcd.statEn.getLsbD 2 ||
      decide (after.ly ≠ b.lcd.ly ∧ after.ly = b.lcd.lyc) && b.lcd.statEn.getLsbD 3) ∧
    (∀ k, 2 ≤ k → (displayDot b).intFlag.getLsbD k = b.intFlag.getLsbD k) ∧
    after.statEn = b.lcd.statEn ∧ after.lyc = b.lcd.lyc

/-- What the display draws, publishes and shows. The line rendered on entering pixel-transfer (R474, R475, R479): that row of
the frame under construction gets, at each of its 160 pixels, the shade of the sprite that shows there (R476) or of the
background and window, computed on numbers by `shownShade`; the other rows keep theirs, and the window's own line counter
steps where the window is active. Publication (R478): the dot that enters line 144 makes the frame under construction the
published one, and no other dot changes that. The host's view (R478, R490 (d)): the published frame in row-major order, each
shade as its packed pixel, with the generation. -/
def Obligations.RenderedLine : Prop :=
  (∀ b : Bus, b.lcd.enabled = true → b.lcd.ly.toNat < 144 → b.lcd.dot = 79 → b.lcd.fbWork.shaped →
    let after := (displayDot b).lcd
    (∀ row x : Nat, row < 144 → x < 160 →
      (((after.fbWork.getD row []).getD x 0)).toNat =
        if row = b.lcd.ly.toNat then b.shownShade row x else ((b.lcd.fbWork.getD row []).getD x 0).toNat) ∧
    after.windowLine = (if b.lcd.lcdc.getLsbD 0 = true ∧ b.lcd.lcdc.getLsbD 5 = true ∧ b.lcd.wy.toNat ≤ b.lcd.ly.toNat ∧
      b.lcd.wx.toNat ≤ 166 then b.lcd.windowLine + 1 else b.lcd.windowLine) ∧
    after.fbFront = b.lcd.fbFront ∧ after.generation = b.lcd.generation ∧ after.mode = .transfer) ∧
  (∀ b : Bus,
    let publishes := b.lcd.enabled = true ∧ b.lcd.ly = 143 ∧ b.lcd.dot = 455
    (publishes → (displayDot b).lcd.fbFront = b.lcd.fbWork ∧ (displayDot b).lcd.fbWork = b.lcd.fbWork ∧
      (displayDot b).lcd.generation = b.lcd.generation + 1) ∧
    (¬ publishes → (displayDot b).lcd.fbFront = b.lcd.fbFront ∧ (displayDot b).lcd.generation = b.lcd.generation)) ∧
  (∀ s : State, s.bus.lcd.fbFront.shaped →
    (frameBuffer s).1.length = 160 * 144 ∧ (frameBuffer s).2 = s.bus.lcd.generation ∧
    ∀ x y : Nat, x < 160 → y < 144 →
      (frameBuffer s).1.getD (y * 160 + x) 0 =
        packedPixel s.params.pixels ((s.bus.lcd.fbFront.getD y []).getD x 0).toNat)

/-- The sprites of a line and of a pixel (R476), from the bytes of OAM. The line's sprites are, in OAM order, the first ten
entries whose rows reach it; an entry's colour at a pixel follows from its four bytes, with the flips and the two tiles of a
16-row sprite. The one that shows is one of the line's, opaque there, with no opaque one of smaller X among them and none of
the same X earlier in OAM; none shows exactly when none of them is opaque there or sprites are off. -/
def Obligations.SpritePriority : Prop :=
  ∀ (b : Bus) (ly x : Nat),
    (∃ considered : List Nat, considered.Pairwise (· < ·) ∧ considered.length ≤ 10 ∧
      (∀ i, i ∈ considered ↔ b.entryConsidered ly i) ∧ b.lineSprites ly = considered.map b.oamEntry) ∧
    (∀ i : Nat, (b.spriteColour (b.oamEntry i) ly x).toNat = b.entryColour ly x i) ∧
    (∀ i : Sprite, b.spriteAt (b.lineSprites ly) ly x = some i →
      b.lcd.lcdc.getLsbD 1 = true ∧
      ∃ before after : List Sprite, b.lineSprites ly = before ++ i :: after ∧ b.spriteColour i ly x ≠ 0 ∧
        (∀ j ∈ before, b.spriteColour j ly x ≠ 0 → i.x < j.x) ∧
        (∀ j ∈ after, b.spriteColour j ly x ≠ 0 → i.x ≤ j.x)) ∧
    (b.spriteAt (b.lineSprites ly) ly x = none ↔
      b.lcd.lcdc.getLsbD 1 = false ∨ ∀ j ∈ b.lineSprites ly, b.spriteColour j ly x = 0)

/-- Pressing and releasing (R460, R461): a press of a released button sets its bit, and requests the input interrupt exactly
when its group is selected; pressing a pressed button changes nothing; a release requests nothing; a press and its release
leave P1 reading as before. -/
def Obligations.ButtonEvents : Prop :=
  ∀ (s : State) (button : Button),
    (s.bus.joypad.buttons.getLsbD button.bit = true → pressButton button s = s) ∧
    (s.bus.joypad.buttons.getLsbD button.bit = false →
      ∃ t, t = pressButton button s ∧
        t.bus.joypad.buttons = s.bus.joypad.buttons ||| (1#8 <<< button.bit.val) ∧
        t.bus.joypad.p1Select = s.bus.joypad.p1Select ∧
        t.bus.intFlag =
          (if s.bus.joypad.p1Select.getLsbD (if button.bit.val < 4 then 0 else 1) then s.bus.intFlag
            else s.bus.intFlag ||| 0b10000) ∧
        t.cpu = s.cpu ∧ t.ctl.ime = s.ctl.ime ∧
        (releaseButton button t).read 0xFF00 = s.read 0xFF00) ∧
    releaseButton button s = { s with bus := { s.bus with joypad := { s.bus.joypad with
      buttons := s.bus.joypad.buttons &&& ~~~(1#8 <<< button.bit.val) } } }

/-! ### Reset and load -/

/-- What reset leaves in the CPU, the control state, the registers, the sound block among them, and the frame buffers (R501,
R38, R51), read as a program reads them, and the defaults of the parameters (R5); what the memories hold is the parameter
RAM_INIT (R26). -/
def Obligations.ResetState : Prop :=
  let s := State.reset
  s.reg .a = 0x01 ∧ s.flags.byte = 0xB0 ∧ s.pairValue .bc = 0x0013 ∧ s.pairValue .de = 0x00D8 ∧ s.pairValue .hl = 0x014D ∧
  s.sp = 0xFFFE ∧ s.pc = 0x0100 ∧ s.ctl = ⟨false, 0, .running, false, none⟩ ∧
  [0xFF00, 0xFF01, 0xFF02, 0xFF04, 0xFF05, 0xFF06, 0xFF07, 0xFF0F, 0xFFFF].map s.read =
    [0xCF, 0x00, 0x7E, 0xAB, 0x00, 0x00, 0xF8, 0xE1, 0x00] ∧
  [0xFF40, 0xFF41, 0xFF42, 0xFF43, 0xFF44, 0xFF45, 0xFF46, 0xFF47, 0xFF48, 0xFF49, 0xFF4A, 0xFF4B].map s.read =
    [0x91, 0x86, 0x00, 0x00, 0x00, 0x00, 0xFF, 0xFC, 0xFF, 0xFF, 0x00, 0x00] ∧
  (List.range 48).map (fun k => s.read (0xFF10 + BitVec.ofNat 16 k)) = soundBytes ∧
  s.bus.timer.divCounter = 0xAB00 ∧ s.bus.joypad = ⟨0, 0⟩ ∧ s.bus.lcd.dot = 0 ∧ s.bus.lcd.windowLine = 0 ∧
  s.bus.lcd.fbWork = List.replicate 144 (List.replicate 160 0) ∧
  s.bus.lcd.fbFront = List.replicate 144 (List.replicate 160 0) ∧ s.bus.lcd.generation = 0 ∧
  s.params = ⟨false, .fatal, ⟨0xFFFFFFFF, 0xFFAAAAAA, 0xFF555555, 0xFF000000⟩⟩

/-- Loading an image (R80, R81, R403, R500, R501): it succeeds exactly when the image is long enough, of a supported type, and
with size codes in range; a failure is one that the image has, with its code. Where it succeeds, every register and the frame
buffers have their reset values, the cartridge is what the header declares, with its RAM disabled and its bank registers at
reset, the ROM is the image, the memories hold what RAM_INIT and CART_RAM_INIT give (a byte they do not give reading 0x00 is
the model's choice, log entry 10), and no host event waits. -/
def Obligations.LoadValidatesAndResets : Prop :=
  ∀ (image cartRam : List Byte) (ram : RamInit) (params : Params),
    let type := image.getD 0x0147 0
    let romCode := (image.getD 0x0148 0).toNat
    let ramCode := (image.getD 0x0149 0).toNat
    ((∃ s, State.load image cartRam ram params = .ok s) ↔
      0x8000 ≤ image.length ∧ type ∈ supportedTypes ∧ romCode ≤ 8 ∧ ramCode ≤ 5) ∧
    (∀ e, State.load image cartRam ram params = .error e → e.explains image) ∧
    (∀ s, State.load image cartRam ram params = .ok s →
      ResetRegisters s ∧ s.params = params ∧ s.input = [] ∧
      DeclaresMapper type s.bus.cart.mapper ∧ s.bus.cart.ramEnable = false ∧
      s.bus.cart.romLength = image.length ∧ s.bus.cart.romBanks = 2 ^ (romCode + 1) ∧
      s.bus.cart.ramSize = (if type ∈ typesWithoutRam then 0 else ramSizes.getD ramCode 0) ∧
      (∀ i, i < image.length → s.bus.cart.rom.read i = image.getD i 0) ∧
      (∀ i, i < s.bus.cart.ramSize → s.bus.cart.ram.read i = cartRam.getD i 0) ∧
      (∀ i, i < 8192 → s.bus.vram.read i = ram.vram.getD i 0) ∧
      (∀ i, i < 8192 → s.bus.wram.read i = ram.wram.getD i 0) ∧
      (∀ i, i < 160 → s.bus.oam.read i = ram.oam.getD i 0) ∧
      (∀ i, i < 127 → s.bus.hram.read i = ram.hram.getD i 0))

/-! ### Invariants -/

/-- Every step keeps every memory in canonical form and inside its size (R26, R27, R90). -/
def Obligations.StepKeepsMemoriesInForm : Prop :=
  ∀ s t : State, s.bus.memoriesOk → step s = .next t → t.bus.memoriesOk

/-- Every step keeps the display's position, mode and frame buffers in step (R471, R473, R51). -/
def Obligations.StepKeepsDisplayInStep : Prop :=
  ∀ s t : State, s.bus.lcd.ok → step s = .next t → t.bus.lcd.ok

/-- Every step keeps the control state in order (R18, R19, R400, R421, R422, R441). -/
def Obligations.StepKeepsControlInOrder : Prop :=
  ∀ s t : State, s.ControlOk → step s = .next t → t.ControlOk

/-- No step changes the image, the configuration read from its header or the parameters, and no bank register that turns zero
into one ever holds zero (R10, R27, R84, R86). -/
def Obligations.StepKeepsTheCartridge : Prop :=
  ∀ s t : State, step s = .next t →
    SameCartridge s t ∧ (s.bus.cart.mapper.bankNonzero → t.bus.cart.mapper.bankNonzero)

/-- Every state that a load answers meets every invariant (R500, R501), and so does the reset state, whose cartridge is the
model's choice (log entry 2). -/
def Obligations.ResetMeetsTheInvariants : Prop :=
  (∀ (image cartRam : List Byte) (ram : RamInit) (params : Params) (s : State),
    State.load image cartRam ram params = .ok s →
    s.bus.memoriesOk ∧ s.bus.lcd.ok ∧ s.ControlOk ∧ s.bus.cart.mapper.bankNonzero) ∧
  State.reset.bus.memoriesOk ∧ State.reset.bus.lcd.ok ∧ State.reset.ControlOk ∧ State.reset.bus.cart.mapper.bankNonzero

/-- A step always answers a next state: nothing faults and nothing is refused (R70, R402). That taking the exception of R401,
and every step in FATAL, answers a next state too is the model's choice (log entry 7). -/
def Obligations.EveryStepAnswersANextState : Prop :=
  (∀ s : State, ∃ t, step s = .next t) ∧ ∀ (i : Instr) (s : State), ∃ t, exec i s = .next t
end

