-- ==== Sys2Proof/Laws/Bits.lean ====
section
/-! SUPPORT. The laws of the byte-order helpers and of the flags' byte. -/

namespace Sys2Proof

/-- The two halves of a word, joined. -/
@[simp] theorem join16_hi8_lo8 (v : Addr) : join16 (hi8 v) (lo8 v) = v := by
  apply BitVec.eq_of_toNat_eq
  have h : v.toNat < 65536 := v.isLt
  simp only [join16, hi8, lo8, BitVec.toNat_append, BitVec.extractLsb'_toNat, Nat.shiftRight_eq_div_pow]
  rw [← Nat.shiftLeft_add_eq_or_of_lt (by omega), Nat.shiftLeft_eq]
  omega

/-- The high half of two joined bytes. -/
@[simp] theorem hi8_join16 (a b : Byte) : hi8 (join16 a b) = a := by
  apply BitVec.eq_of_toNat_eq
  have ha : a.toNat < 256 := a.isLt
  have hb : b.toNat < 256 := b.isLt
  simp only [join16, hi8, BitVec.toNat_append, BitVec.extractLsb'_toNat, Nat.shiftRight_eq_div_pow]
  rw [← Nat.shiftLeft_add_eq_or_of_lt hb, Nat.shiftLeft_eq]
  omega

/-- The low half of two joined bytes. -/
@[simp] theorem lo8_join16 (a b : Byte) : lo8 (join16 a b) = b := by
  apply BitVec.eq_of_toNat_eq
  have ha : a.toNat < 256 := a.isLt
  have hb : b.toNat < 256 := b.isLt
  simp only [join16, lo8, BitVec.toNat_append, BitVec.extractLsb'_toNat, Nat.shiftRight_eq_div_pow]
  rw [← Nat.shiftLeft_add_eq_or_of_lt hb, Nat.shiftLeft_eq]
  omega

namespace Machine

/-- The byte F, as bits and as a number (R13, R14). -/
theorem Flags.toByte_eq (f : Flags) : f.toByte = f.byte := by
  obtain ⟨z, n, h, c⟩ := f
  cases z <;> cases n <;> cases h <;> cases c <;> rfl

/-- The flags are what a write of F's own byte gives (R13). -/
@[simp] theorem Flags.ofByte_toByte (f : Flags) : Flags.ofByte f.toByte = f := by
  obtain ⟨z, n, h, c⟩ := f
  cases z <;> cases n <;> cases h <;> cases c <;> rfl

/-- F's byte after a write of `v`: bits 3:0 are dropped (R13). -/
theorem Flags.toByte_ofByte (v : Byte) : (Flags.ofByte v).toByte = v &&& 0xF0 := by
  revert v
  decide

end Machine

end Sys2Proof
end

