-- ==== Sys2Proof/Laws/Memory.lean ====
section
/-! SUPPORT. The laws of a byte memory: every operation keeps the canonical form and the bound, and what a write changes. -/

namespace Sys2Proof.Machine.Memory

@[simp] theorem read_nil (i : Nat) : Memory.read [] i = background := rfl

theorem read_cons (k : Nat) (v : Byte) (m : Memory) (i : Nat) :
    Memory.read ((k, v) :: m) i = if k = i then v else m.read i := rfl

/-- A place below every listed index reads as the background. -/
theorem read_of_below {m : Memory} {i : Nat} (h : ∀ p ∈ m, i < p.1) : m.read i = background := by
  induction m with
  | nil => rfl
  | cons p m ih =>
    rw [read_cons, if_neg (by have := h p (by simp); omega)]
    exact ih (fun q hq => h q (by simp [hq]))

@[simp] theorem nil_wf : Memory.wf [] := ⟨List.Pairwise.nil, fun _ h => by cases h⟩

@[simp] theorem nil_ok (size : Nat) : Memory.ok size [] := ⟨nil_wf, fun _ h => by cases h⟩

theorem wf_tail {p : Host.Cell} {m : Memory} (h : Memory.wf (p :: m)) : m.wf :=
  ⟨(List.pairwise_cons.mp h.1).2, fun q hq => h.2 q (by simp [hq])⟩

theorem wf_head {p : Host.Cell} {m : Memory} (h : Memory.wf (p :: m)) : ∀ q ∈ m, p.1 < q.1 :=
  (List.pairwise_cons.mp h.1).1

/-- Placing a byte below every listed index keeps the canonical form. -/
theorem place_wf {m : Memory} {i : Nat} (v : Byte) (h : m.wf) (hi : ∀ p ∈ m, i < p.1) : (place i v m).wf := by
  unfold place
  split
  · exact h
  · refine ⟨List.pairwise_cons.mpr ⟨hi, h.1⟩, ?_⟩
    intro p hp
    rcases List.mem_cons.mp hp with rfl | hp
    · assumption
    · exact h.2 p hp

theorem mem_place {m : Memory} {i : Nat} {v : Byte} {p : Host.Cell} (h : p ∈ place i v m) : p = (i, v) ∨ p ∈ m := by
  unfold place at h
  split at h
  · exact .inr h
  · exact List.mem_cons.mp h

/-- Every cell after a write is the written one or an old one. -/
theorem mem_write {m : Memory} {i : Nat} {v : Byte} {p : Host.Cell} (h : p ∈ m.write i v) : p = (i, v) ∨ p ∈ m := by
  induction m with
  | nil => exact mem_place h
  | cons q m ih =>
    obtain ⟨k, w⟩ := q
    unfold Memory.write at h
    split at h
    · exact mem_place h
    · split at h
      · exact (mem_place h).imp id (fun h => by simp [h])
      · rcases List.mem_cons.mp h with rfl | h
        · simp
        · exact (ih h).imp id (fun h => by simp [h])

/-- A write keeps the canonical form. -/
theorem write_wf {m : Memory} (i : Nat) (v : Byte) (h : m.wf) : (m.write i v).wf := by
  induction m with
  | nil => exact place_wf v h (by simp)
  | cons q m ih =>
    obtain ⟨k, w⟩ := q
    have hk := wf_head h
    unfold Memory.write
    split
    · rename_i hlt
      refine place_wf v h ?_
      intro p hp
      rcases List.mem_cons.mp hp with rfl | hp
      · exact hlt
      · have := hk p hp
        dsimp at this
        omega
    · split
      · rename_i heq
        exact place_wf v (wf_tail h) (fun p hp => by rw [heq]; exact hk p hp)
      · rename_i hnlt hne
        have ht := ih (wf_tail h)
        refine ⟨List.pairwise_cons.mpr ⟨?_, ht.1⟩, ?_⟩
        · intro p hp
          rcases mem_write hp with rfl | hp
          · dsimp
            omega
          · exact hk p hp
        · intro p hp
          rcases List.mem_cons.mp hp with rfl | hp
          · exact h.2 _ (by simp)
          · exact ht.2 p hp

/-- A write inside the bound keeps the bound. -/
theorem write_within {m : Memory} {i size : Nat} (v : Byte) (h : m.within size) (hi : i < size) :
    (m.write i v).within size := by
  intro p hp
  rcases mem_write hp with rfl | hp
  · exact hi
  · exact h p hp

theorem write_ok {m : Memory} {i size : Nat} (v : Byte) (h : m.ok size) (hi : i < size) : (m.write i v).ok size :=
  ⟨write_wf i v h.1, write_within v h.2 hi⟩

theorem read_place {m : Memory} {i : Nat} (v : Byte) (hi : ∀ p ∈ m, i < p.1) (j : Nat) :
    (place i v m).read j = if i = j then v else m.read j := by
  unfold place
  split
  · rename_i hv
    split
    · rename_i hij
      rw [← hij, read_of_below hi, hv]
    · rfl
  · exact read_cons i v m j

/-- What every index reads after a write to a memory in canonical form. -/
theorem read_write {m : Memory} (h : m.wf) (i : Nat) (v : Byte) (j : Nat) :
    (m.write i v).read j = if i = j then v else m.read j := by
  induction m with
  | nil => exact read_place v (by simp) j
  | cons q m ih =>
    obtain ⟨k, w⟩ := q
    have hk := wf_head h
    unfold Memory.write
    split
    · rename_i hlt
      rw [read_place v ?_ j]
      intro p hp
      rcases List.mem_cons.mp hp with rfl | hp
      · exact hlt
      · have := hk p hp
        dsimp at this
        omega
    · split
      · rename_i heq
        rw [read_place v (fun p hp => by rw [heq]; exact hk p hp) j, read_cons, heq]
        split <;> rfl
      · rename_i hne
        rw [read_cons, read_cons, ih (wf_tail h)]
        by_cases hkj : k = j
        · subst hkj
          rw [if_pos rfl, if_neg hne, if_pos rfl]
        · simp only [if_neg hkj]

theorem writeAll_ok {size : Nat} (bytes : List Byte) {m : Memory} {i : Nat} (h : m.ok size)
    (hi : i + bytes.length ≤ size) : (m.writeAll i bytes).ok size := by
  induction bytes generalizing m i with
  | nil => exact h
  | cons v vs ih =>
    simp only [List.length_cons] at hi
    exact ih (write_ok v h (by omega)) (by omega)

/-- What every index reads after a run of writes at consecutive indices. -/
theorem read_writeAll (bytes : List Byte) {m : Memory} (h : m.wf) (i j : Nat) :
    (m.writeAll i bytes).read j =
      if i ≤ j ∧ j < i + bytes.length then bytes.getD (j - i) background else m.read j := by
  induction bytes generalizing m i with
  | nil =>
    rw [if_neg (by simp only [List.length_nil]; omega)]
    rfl
  | cons v vs ih =>
    show Memory.read (Memory.writeAll (m.write i v) (i + 1) vs) j = _
    rw [ih (write_wf i v h), read_write h]
    simp only [List.length_cons]
    by_cases hj : i = j
    · subst hj
      rw [if_neg (by omega), if_pos rfl, if_pos (by omega), Nat.sub_self, List.getD_cons_zero]
    · rw [if_neg hj]
      by_cases hr : i + 1 ≤ j ∧ j < i + 1 + vs.length
      · rw [if_pos hr, if_pos (by omega), show j - i = (j - (i + 1)) + 1 by omega, List.getD_cons_succ]
      · rw [if_neg hr, if_neg (by omega)]

theorem ofBytesFrom_above (bytes : List Byte) (i : Nat) : ∀ p ∈ ofBytesFrom i bytes, i ≤ p.1 ∧ p.1 < i + bytes.length := by
  induction bytes generalizing i with
  | nil => simp [ofBytesFrom]
  | cons v vs ih =>
    intro p hp
    rcases mem_place hp with rfl | hp
    · simp
    · have := ih (i + 1) p hp
      simp only [List.length_cons]
      omega

theorem ofBytesFrom_wf (bytes : List Byte) (i : Nat) : (ofBytesFrom i bytes).wf := by
  induction bytes generalizing i with
  | nil => exact nil_wf
  | cons v vs ih => exact place_wf v (ih (i + 1)) (fun p hp => by have := ofBytesFrom_above vs (i + 1) p hp; omega)

/-- A memory made from a byte list is in canonical form and holds no byte beyond the list. -/
theorem ofBytes_ok (bytes : List Byte) : (ofBytes bytes).ok bytes.length :=
  ⟨ofBytesFrom_wf bytes 0, fun p hp => by have := ofBytesFrom_above bytes 0 p hp; omega⟩

/-- A memory made from a byte list reads as the list, and as the background beyond it. -/
theorem read_ofBytesFrom (bytes : List Byte) (i j : Nat) :
    (ofBytesFrom i bytes).read (i + j) = bytes.getD j background := by
  induction bytes generalizing i j with
  | nil => simp [ofBytesFrom]
  | cons v vs ih =>
    unfold ofBytesFrom
    rw [read_place v (fun p hp => by have := ofBytesFrom_above vs (i + 1) p hp; omega)]
    cases j with
    | zero => simp
    | succ j =>
      rw [if_neg (by omega), show i + (j + 1) = (i + 1) + j by omega, ih]
      simp

end Sys2Proof.Machine.Memory
end

