-- ==== Sys2Proof/Laws/Bus.lean ====
section
/-! SUPPORT. The laws of the bus: the bounds of each region, the cartridge RAM's offset, and that every write keeps every
memory in canonical form and inside its size. -/

namespace Sys2Proof.Machine

/-! ### Regions (R73) -/

/-- The bounds of the region an address lies in. -/
theorem regionOf_bounds (a : Addr) :
    match regionOf a with
    | .romFixed => a.toNat < 0x4000
    | .romSwitch => 0x4000 ≤ a.toNat ∧ a.toNat < 0x8000
    | .vram => 0x8000 ≤ a.toNat ∧ a.toNat < 0xA000
    | .cartRam => 0xA000 ≤ a.toNat ∧ a.toNat < 0xC000
    | .wram => 0xC000 ≤ a.toNat ∧ a.toNat < 0xE000
    | .echo => 0xE000 ≤ a.toNat ∧ a.toNat < 0xFE00
    | .oam => 0xFE00 ≤ a.toNat ∧ a.toNat < 0xFEA0
    | .unusable => 0xFEA0 ≤ a.toNat ∧ a.toNat < 0xFF00
    | .io => 0xFF00 ≤ a.toNat ∧ a.toNat < 0xFF80
    | .hram => 0xFF80 ≤ a.toNat ∧ a.toNat < 0xFFFF
    | .intEnable => a.toNat = 0xFFFF := by
  have h16 : a.toNat < 65536 := a.isLt
  simp only [regionOf]
  split_ifs <;> dsimp only <;> omega

/-- An address lies in a region exactly when it is within the region's bounds. -/
theorem regionOf_eq_iff (a : Addr) (r : Region) :
    regionOf a = r ↔
      match r with
      | .romFixed => a.toNat < 0x4000
      | .romSwitch => 0x4000 ≤ a.toNat ∧ a.toNat < 0x8000
      | .vram => 0x8000 ≤ a.toNat ∧ a.toNat < 0xA000
      | .cartRam => 0xA000 ≤ a.toNat ∧ a.toNat < 0xC000
      | .wram => 0xC000 ≤ a.toNat ∧ a.toNat < 0xE000
      | .echo => 0xE000 ≤ a.toNat ∧ a.toNat < 0xFE00
      | .oam => 0xFE00 ≤ a.toNat ∧ a.toNat < 0xFEA0
      | .unusable => 0xFEA0 ≤ a.toNat ∧ a.toNat < 0xFF00
      | .io => 0xFF00 ≤ a.toNat ∧ a.toNat < 0xFF80
      | .hram => 0xFF80 ≤ a.toNat ∧ a.toNat < 0xFFFF
      | .intEnable => a.toNat = 0xFFFF := by
  have hb := regionOf_bounds a
  constructor
  · rintro rfl
    exact hb
  · intro h
    cases r <;> dsimp only at h <;> cases hr : regionOf a <;> rw [hr] at hb <;> dsimp only at hb <;>
      first | rfl | omega

/-- The sound block's addresses (R100, R118). -/
theorem ioRegAt_sound {a : Addr} (h : ioRegAt a = .sound) : 0xFF10 ≤ a.toNat ∧ a.toNat ≤ 0xFF3F := by
  unfold ioRegAt at h
  split at h <;> simp_all

/-- The address of an I/O register (R100); none of its own for the sound block and the unmapped addresses. -/
def IoReg.address : IoReg → Nat
  | .p1 => 0xFF00
  | .sb => 0xFF01
  | .sc => 0xFF02
  | .div => 0xFF04
  | .tima => 0xFF05
  | .tma => 0xFF06
  | .tac => 0xFF07
  | .intFlag => 0xFF0F
  | .lcdc => 0xFF40
  | .stat => 0xFF41
  | .scy => 0xFF42
  | .scx => 0xFF43
  | .ly => 0xFF44
  | .lyc => 0xFF45
  | .dma => 0xFF46
  | .bgp => 0xFF47
  | .obp0 => 0xFF48
  | .obp1 => 0xFF49
  | .wy => 0xFF4A
  | .wx => 0xFF4B
  | .sound | .unmapped => 0

/-- An I/O address is the address of its register. -/
theorem ioRegAt_address (a : Addr) (hs : ioRegAt a ≠ .sound) (hu : ioRegAt a ≠ .unmapped) :
    a.toNat = (ioRegAt a).address := by
  unfold ioRegAt at *
  split <;> simp_all [IoReg.address]

/-- Two I/O addresses with the same register are the same address, but for the sound block and the unmapped ones (R100). -/
theorem ioRegAt_injective {a x : Addr} (h : ioRegAt a = ioRegAt x) (hs : ioRegAt a ≠ .sound)
    (hu : ioRegAt a ≠ .unmapped) : a = x := by
  apply BitVec.eq_of_toNat_eq
  rw [ioRegAt_address a hs hu, h, ioRegAt_address x (h ▸ hs) (h ▸ hu)]

/-- A write to LCDC stores the byte and leaves the other registers of the display alone (R119, R473). -/
theorem Lcd.writeLcdc_registers (d : Lcd) (v : Byte) :
    (d.writeLcdc v).lcdc = v ∧ (d.writeLcdc v).statEn = d.statEn ∧ (d.writeLcdc v).scy = d.scy ∧
      (d.writeLcdc v).scx = d.scx ∧ (d.writeLcdc v).lyc = d.lyc ∧ (d.writeLcdc v).dma = d.dma ∧
      (d.writeLcdc v).bgp = d.bgp ∧ (d.writeLcdc v).obp0 = d.obp0 ∧ (d.writeLcdc v).obp1 = d.obp1 ∧
      (d.writeLcdc v).wy = d.wy ∧ (d.writeLcdc v).wx = d.wx := by
  unfold Lcd.writeLcdc Lcd.enable Lcd.disable
  dsimp only
  generalize d.enabled = p
  generalize Lcd.enabled _ = q
  cases p <;> cases q <;> simp

/-- The requested and enabled interrupts are the candidates of R411. -/
theorem Bus.pending_candidate (b : Bus) (k : Nat) : b.pending.getLsbD k = b.candidate k := by
  unfold Bus.pending Bus.candidate
  by_cases h : k < 5 <;> simp [h]

/-! ### Cartridge RAM (R90) -/

/-- An offset in cartridge RAM lies inside it. -/
theorem Cart.ramOffset_lt {c : Cart} {a : Addr} {off : Nat} (h : c.ramOffset a = some off) : off < c.ramSize := by
  unfold Cart.ramOffset at h
  split at h
  · simp at h
  · simp only [Option.map_eq_some_iff] at h
    obtain ⟨k, -, rfl⟩ := h
    exact Nat.mod_lt _ (by omega)

/-- A write to the mapper's registers leaves the image, the RAM and their sizes alone. -/
theorem Cart.writeControl_memories (c : Cart) (a : Addr) (v : Byte) :
    (c.writeControl a v).rom = c.rom ∧ (c.writeControl a v).ram = c.ram ∧
      (c.writeControl a v).romLength = c.romLength ∧ (c.writeControl a v).romBanks = c.romBanks ∧
      (c.writeControl a v).ramSize = c.ramSize := by
  unfold Cart.writeControl Cart.writeRamEnable
  split <;> (repeat' split) <;> simp

/-- A write to cartridge RAM leaves everything of the cartridge but the RAM alone. -/
theorem Cart.writeRam_eq (c : Cart) (a : Addr) (v : Byte) : c.writeRam a v = { c with ram := (c.writeRam a v).ram } := by
  unfold Cart.writeRam
  split <;> rfl

theorem Cart.writeRam_ok {c : Cart} (a : Addr) (v : Byte) (h : c.ram.ok c.ramSize) :
    (c.writeRam a v).ram.ok (c.writeRam a v).ramSize := by
  unfold Cart.writeRam
  split
  · rename_i off hoff
    exact Memory.write_ok v h (Cart.ramOffset_lt hoff)
  · exact h

/-! ### Every bus write keeps the memories in form -/

/-- Everything a DMA write does (R124): the register and 160 bytes of OAM. -/
theorem Bus.writeDma_effect (b : Bus) (v : Byte) :
    ∃ bytes : List Byte, bytes.length = 160 ∧
      b.writeDma v = { b with lcd := { b.lcd with dma := v }, oam := b.oam.writeAll 0 bytes } :=
  ⟨({ b with lcd := { b.lcd with dma := v } } : Bus).dmaSource v, by simp [Bus.dmaSource], rfl⟩

theorem Bus.writeDma_memoriesOk {b : Bus} (v : Byte) (h : b.memoriesOk) : (b.writeDma v).memoriesOk := by
  obtain ⟨h1, h2, h3, h4, h5, h6, h7⟩ := h
  obtain ⟨bytes, hlen, heq⟩ := b.writeDma_effect v
  rw [heq]
  exact ⟨h1, h2, Memory.writeAll_ok bytes h3 (by omega), h4, h5, h6, h7⟩

theorem Bus.writeIo_memoriesOk {b : Bus} (a : Addr) (v : Byte) (h : b.memoriesOk) : (b.writeIo a v).memoriesOk := by
  unfold Bus.writeIo
  split
  case h_9 hs =>
    obtain ⟨h1, h2, h3, h4, h5, h6, h7⟩ := h
    exact ⟨h1, h2, h3, h4, Memory.write_ok v h5 (by have := ioRegAt_sound hs; omega), h6, h7⟩
  case h_16 => exact Bus.writeDma_memoriesOk v h
  all_goals exact h

/-- Every write of the bus keeps every memory in canonical form and inside its size. -/
theorem Bus.write_memoriesOk {b : Bus} (a : Addr) (v : Byte) (h : b.memoriesOk) : (b.write a v).memoriesOk := by
  have hr := regionOf_bounds a
  obtain ⟨h1, h2, h3, h4, h5, h6, h7⟩ := h
  have hc := Cart.writeControl_memories b.cart a v
  unfold Bus.write
  split <;> rename_i hreg <;> simp only [hreg] at hr
  · refine ⟨h1, h2, h3, h4, h5, ?_, ?_⟩
    · show Memory.ok (b.cart.writeControl a v).romLength (b.cart.writeControl a v).rom
      rw [hc.1, hc.2.2.1]; exact h6
    · show Memory.ok (b.cart.writeControl a v).ramSize (b.cart.writeControl a v).ram
      rw [hc.2.1, hc.2.2.2.2]; exact h7
  · refine ⟨h1, h2, h3, h4, h5, ?_, ?_⟩
    · show Memory.ok (b.cart.writeControl a v).romLength (b.cart.writeControl a v).rom
      rw [hc.1, hc.2.2.1]; exact h6
    · show Memory.ok (b.cart.writeControl a v).ramSize (b.cart.writeControl a v).ram
      rw [hc.2.1, hc.2.2.2.2]; exact h7
  · exact ⟨Memory.write_ok v h1 (by omega), h2, h3, h4, h5, h6, h7⟩
  · refine ⟨h1, h2, h3, h4, h5, ?_, Cart.writeRam_ok a v h7⟩
    show Memory.ok (b.cart.writeRam a v).romLength (b.cart.writeRam a v).rom
    rw [Cart.writeRam_eq]; exact h6
  · exact ⟨h1, Memory.write_ok v h2 (by omega), h3, h4, h5, h6, h7⟩
  · exact ⟨h1, Memory.write_ok v h2 (by omega), h3, h4, h5, h6, h7⟩
  · exact ⟨h1, h2, Memory.write_ok v h3 (by omega), h4, h5, h6, h7⟩
  · exact ⟨h1, h2, h3, h4, h5, h6, h7⟩
  · exact Bus.writeIo_memoriesOk a v ⟨h1, h2, h3, h4, h5, h6, h7⟩
  · exact ⟨h1, h2, h3, Memory.write_ok v h4 (by omega), h5, h6, h7⟩
  · exact ⟨h1, h2, h3, h4, h5, h6, h7⟩

/-- A raised request touches IF alone. -/
@[simp] theorem Bus.request_eq (b : Bus) (k : Nat) :
    b.request k = { b with intFlag := b.intFlag ||| BitVec.twoPow 5 k } := rfl

/-- The memories of the reset state are in form. -/
theorem reset_memories_inForm : State.reset.bus.memoriesOk := by decide

end Sys2Proof.Machine
end

