-- ==== Sys2Proof/Laws/Cycles.lean ====
section
/-! SUPPORT. The three shapes of an instruction's cycle count (30_encoding.md R154), so that no proof evaluates the tables. -/

namespace Sys2Proof.Machine

/-- A 0xCB-page instruction: by its second byte. -/
theorem instrCycles_page {i : Instr} {b : Byte} (s : State) (h : encode i = [0xCB, b]) :
    instrCycles i s = if b.toNat % 8 = 6 then (if b.toNat / 64 = 1 then 12 else 16) else 8 := by
  have table : ∀ b : Byte,
      secondTableCycles b = if b.toNat % 8 = 6 then (if b.toNat / 64 = 1 then 12 else 16) else 8 := by decide
  rw [← table]
  unfold instrCycles
  rw [h]
  rfl

/-- A conditional transfer: by its condition, on the flags as the instruction begins (R320). -/
theorem instrCycles_conditional {i : Instr} {b : Byte} {rest : List Byte} {n : Nat} (s : State)
    (h : encode i = b :: rest) (hb : b ≠ 0xCB) (hn : cyclesNotTaken b = some n) :
    instrCycles i s = if s.condition (condOfCode (field2 b 3)) then firstTableCycles.getD b.toNat 0 else n := by
  unfold instrCycles cyclesOfBytes
  rw [h, List.headD_cons, if_neg hb, hn]

/-- Every other instruction of the first table: by its first byte. -/
theorem instrCycles_fixed {i : Instr} {b : Byte} {rest : List Byte} (s : State)
    (h : encode i = b :: rest) (hb : b ≠ 0xCB) (hn : cyclesNotTaken b = none) :
    instrCycles i s = firstTableCycles.getD b.toNat 0 := by
  unfold instrCycles cyclesOfBytes
  rw [h, List.headD_cons, if_neg hb, hn]

end Sys2Proof.Machine
end

