-- ==== Sys2Proof/Laws/Devices.lean ====
section
/-! SUPPORT. What the devices' advance and the host's events can change: the timer its own registers and IF, the display its own
and IF, an event the button mask, IF and a stopped CPU. -/

namespace Sys2Proof.Machine

/-! ### The timer (R450, R451) -/

/-- `c` is `b` but for the timer and IF. -/
def TimerChange (b c : Bus) : Prop := ∃ t f, c = { b with timer := t, intFlag := f }

/-- One cycle of the timer changes the timer's registers and IF and nothing else. -/
theorem timerTick_change (b : Bus) : TimerChange b (timerTick b) := by
  unfold timerTick timaIncrement
  dsimp only
  split
  · split
    · exact ⟨_, _, rfl⟩
    · exact ⟨_, b.intFlag, rfl⟩
  · exact ⟨_, b.intFlag, rfl⟩

/-- The timer's advance changes the timer's registers and IF and nothing else. -/
theorem timerAdvance_change (n : Nat) (b : Bus) : TimerChange b (timerAdvance n b) := by
  induction n generalizing b with
  | zero => exact ⟨b.timer, b.intFlag, rfl⟩
  | succ n ih =>
    obtain ⟨t, f, h⟩ := timerTick_change b
    obtain ⟨t', f', h'⟩ := ih (timerTick b)
    exact ⟨t', f', by show timerAdvance n (timerTick b) = _; rw [h', h]⟩

@[simp] theorem timerAdvance_lcd (n : Nat) (b : Bus) : (timerAdvance n b).lcd = b.lcd := by
  obtain ⟨t, f, h⟩ := timerAdvance_change n b
  rw [h]

@[simp] theorem timerAdvance_cart (n : Nat) (b : Bus) : (timerAdvance n b).cart = b.cart := by
  obtain ⟨t, f, h⟩ := timerAdvance_change n b
  rw [h]

/-! ### The display (R470, R471) -/

/-- `c` is `b` but for the display's own position, mode, window counter, frames and generation, and requests raised in bits 0
and 1 of IF: what the display's advance can do (R470 to R472, R474, R478). -/
def DisplayChange (b c : Bus) : Prop :=
  ∃ (d : Lcd) (raised : BitVec 5), c = { b with lcd := d, intFlag := b.intFlag ||| raised } ∧ raised &&& 0b11100 = 0 ∧
    d = { b.lcd with ly := d.ly, dot := d.dot, mode := d.mode, windowLine := d.windowLine, fbWork := d.fbWork,
                     fbFront := d.fbFront, generation := d.generation }

/-- The display's own fields alone. -/
theorem DisplayChange.lcd (b : Bus) (d : Lcd)
    (h : d = { b.lcd with ly := d.ly, dot := d.dot, mode := d.mode, windowLine := d.windowLine, fbWork := d.fbWork,
                          fbFront := d.fbFront, generation := d.generation } := by rfl) :
    DisplayChange b { b with lcd := d } :=
  ⟨d, 0, by simp, by decide, h⟩

theorem DisplayChange.refl (b : Bus) : DisplayChange b b := .lcd b b.lcd

/-- A request of the display alone. -/
theorem DisplayChange.request (b : Bus) (k : Nat) (h : BitVec.twoPow 5 k &&& 0b11100 = 0) : DisplayChange b (b.request k) :=
  ⟨b.lcd, _, rfl, h, rfl⟩

theorem DisplayChange.trans {b c d : Bus} (h : DisplayChange b c) (g : DisplayChange c d) : DisplayChange b d := by
  obtain ⟨d1, r1, rfl, hr1, h1⟩ := h
  obtain ⟨d2, r2, rfl, hr2, h2⟩ := g
  refine ⟨d2, r1 ||| r2, by simp only [BitVec.or_assoc], ?_, ?_⟩
  · rw [BitVec.and_or_distrib_right, hr1, hr2]
    rfl
  · dsimp only at h2
    rw [h2, h1]

theorem statEvent_change (bit : Nat) (b : Bus) : DisplayChange b (statEvent bit b) := by
  unfold statEvent
  split
  · exact .request b 1 (by decide)
  · exact .refl b

theorem lycCheck_change (b : Bus) : DisplayChange b (lycCheck b) := by
  unfold lycCheck
  split
  · exact statEvent_change 6 b
  · exact .refl b

theorem enterVblank_change (b : Bus) : DisplayChange b (enterVblank b) :=
  (((DisplayChange.lcd b _).trans (.request (setMode .vblank b) 0 (by decide))).trans (statEvent_change 4 _)).trans (.lcd _ _)

theorem enterOamScan_change (b : Bus) : DisplayChange b (enterOamScan b) :=
  (DisplayChange.lcd b _).trans (statEvent_change 5 _)

theorem endVisibleLine_change (b : Bus) : DisplayChange b (endVisibleLine b) := by
  unfold endVisibleLine
  dsimp only
  refine DisplayChange.trans ?_ (lycCheck_change _)
  split
  · exact (DisplayChange.lcd b _).trans (enterVblank_change _)
  · exact (DisplayChange.lcd b _).trans (enterOamScan_change _)

theorem startFrame_change (b : Bus) : DisplayChange b (startFrame b) :=
  (DisplayChange.lcd b _).trans (enterOamScan_change _)

theorem endVblankLine_change (b : Bus) : DisplayChange b (endVblankLine b) := by
  unfold endVblankLine
  dsimp only
  refine DisplayChange.trans ?_ (lycCheck_change _)
  split
  · exact startFrame_change b
  · exact .lcd b _

/-- What one dot of the display changes. -/
theorem displayDot_change (b : Bus) : DisplayChange b (displayDot b) := by
  unfold displayDot
  dsimp only
  repeat' split
  · exact .lcd b _
  · exact (DisplayChange.lcd b _).trans (statEvent_change 3 _)
  · exact (DisplayChange.lcd b _).trans (endVisibleLine_change _)
  · exact .lcd b _
  · exact (DisplayChange.lcd b _).trans (endVblankLine_change _)
  · exact .lcd b _
  · exact .refl b

/-- What the display's advance changes. -/
theorem displayAdvance_change (n : Nat) (b : Bus) : DisplayChange b (displayAdvance n b) := by
  induction n generalizing b with
  | zero => exact .refl b
  | succ n ih => exact (displayDot_change b).trans (ih _)

/-- A property of the display that every dot keeps is kept by every advance. -/
theorem displayAdvance_induct {P : Bus → Prop} (h : ∀ b, P b → P (displayDot b)) (n : Nat) {b : Bus} (hb : P b) :
    P (displayAdvance n b) := by
  induction n generalizing b with
  | zero => exact hb
  | succ n ih => exact ih (h b hb)

@[simp] theorem displayAdvance_cart (n : Nat) (b : Bus) : (displayAdvance n b).cart = b.cart := by
  obtain ⟨d, r, h, -, -⟩ := displayAdvance_change n b
  rw [h]

/-! ### The host's events (R460, R461) -/

/-- An event changes the button mask, IF, and whether a stopped CPU runs, and nothing else. -/
theorem applyEvent_effect (s : State) (e : HostEvent) :
    ∃ (buttons : BitVec 8) (intFlag : BitVec 5) (runState : RunState),
      applyEvent s e = { s with
        bus := { s.bus with intFlag := intFlag, joypad := { s.bus.joypad with buttons := buttons } },
        ctl := { s.ctl with runState := runState } } ∧
      (runState = s.ctl.runState ∨ s.ctl.runState = .stopped ∧ runState = .running) := by
  cases e with
  | release button => exact ⟨_, s.bus.intFlag, s.ctl.runState, rfl, .inl rfl⟩
  | press button =>
    unfold applyEvent pressButton
    dsimp only
    split
    · exact ⟨s.bus.joypad.buttons, s.bus.intFlag, s.ctl.runState, rfl, .inl rfl⟩
    · split
      · refine ⟨_, _, _, rfl, ?_⟩
        split
        · rename_i h
          exact .inr ⟨h, rfl⟩
        · exact .inl rfl
      · exact ⟨_, s.bus.intFlag, s.ctl.runState, rfl, .inl rfl⟩

/-- The host's events before a step change the button mask, IF, whether a stopped CPU runs, and the input stream. -/
theorem hostPhase_effect (s : State) :
    ∃ (buttons : BitVec 8) (intFlag : BitVec 5) (runState : RunState),
      hostPhase s = { s with
        bus := { s.bus with intFlag := intFlag, joypad := { s.bus.joypad with buttons := buttons } },
        ctl := { s.ctl with runState := runState }, input := s.input.tail } ∧
      (runState = s.ctl.runState ∨ s.ctl.runState = .stopped ∧ runState = .running) := by
  unfold hostPhase
  split
  · rename_i h
    refine ⟨s.bus.joypad.buttons, s.bus.intFlag, s.ctl.runState, ?_, .inl rfl⟩
    rw [h, List.tail_nil, ← h]
  · rename_i events later h
    rw [h, List.tail_cons]
    clear h
    suffices hs : ∀ t : State, (∃ (buttons : BitVec 8) (intFlag : BitVec 5) (runState : RunState),
        t = { s with
          bus := { s.bus with intFlag := intFlag, joypad := { s.bus.joypad with buttons := buttons } },
          ctl := { s.ctl with runState := runState }, input := later } ∧
        (runState = s.ctl.runState ∨ s.ctl.runState = .stopped ∧ runState = .running)) →
        (∃ (buttons : BitVec 8) (intFlag : BitVec 5) (runState : RunState),
        events.foldl applyEvent t = { s with
          bus := { s.bus with intFlag := intFlag, joypad := { s.bus.joypad with buttons := buttons } },
          ctl := { s.ctl with runState := runState }, input := later } ∧
        (runState = s.ctl.runState ∨ s.ctl.runState = .stopped ∧ runState = .running)) from
      hs _ ⟨s.bus.joypad.buttons, s.bus.intFlag, s.ctl.runState, rfl, .inl rfl⟩
    induction events with
    | nil => exact fun t h => h
    | cons e es ih =>
      rintro t ⟨buttons, intFlag, runState, rfl, hr⟩
      refine ih _ ?_
      obtain ⟨buttons', intFlag', runState', heq, hr'⟩ := applyEvent_effect _ e
      refine ⟨buttons', intFlag', runState', heq, ?_⟩
      dsimp only at hr'
      rcases hr with rfl | ⟨hs, rfl⟩
      · exact hr'
      · rcases hr' with rfl | ⟨hf, -⟩
        · exact .inr ⟨hs, rfl⟩
        · cases hf

end Sys2Proof.Machine
end

