-- ==== Sys2Proof/Laws/State.lean ====
section
/-! SUPPORT. The small lemmas of the state's updates: one for each field and each update, true by unfolding, so that no
later proof unfolds a record update. -/

namespace Sys2Proof.Machine

variable (s : State)

namespace State

/-! ### setReg -/

@[simp] theorem setReg_bus (r : Reg8) (v : Byte) : (s.setReg r v).bus = s.bus := by
  cases r <;> rfl

@[simp] theorem setReg_ctl (r : Reg8) (v : Byte) : (s.setReg r v).ctl = s.ctl := by
  cases r <;> rfl

@[simp] theorem setReg_params (r : Reg8) (v : Byte) : (s.setReg r v).params = s.params := by
  cases r <;> rfl

@[simp] theorem setReg_input (r : Reg8) (v : Byte) : (s.setReg r v).input = s.input := by
  cases r <;> rfl

@[simp] theorem setReg_flags (r : Reg8) (v : Byte) : (s.setReg r v).flags = s.flags := by
  cases r <;> rfl

@[simp] theorem setReg_pc (r : Reg8) (v : Byte) : (s.setReg r v).pc = s.pc := by
  cases r <;> rfl

@[simp] theorem setReg_sp (r : Reg8) (v : Byte) : (s.setReg r v).sp = s.sp := by
  cases r <;> rfl

@[simp] theorem setReg_read (r : Reg8) (v : Byte) (x : Addr) : (s.setReg r v).read x = s.read x := by rfl

/-! ### setFlags -/

@[simp] theorem setFlags_bus (f : Flags) : (s.setFlags f).bus = s.bus := by
  rfl

@[simp] theorem setFlags_ctl (f : Flags) : (s.setFlags f).ctl = s.ctl := by
  rfl

@[simp] theorem setFlags_params (f : Flags) : (s.setFlags f).params = s.params := by
  rfl

@[simp] theorem setFlags_input (f : Flags) : (s.setFlags f).input = s.input := by
  rfl

@[simp] theorem setFlags_pc (f : Flags) : (s.setFlags f).pc = s.pc := by
  rfl

@[simp] theorem setFlags_sp (f : Flags) : (s.setFlags f).sp = s.sp := by
  rfl

@[simp] theorem setFlags_read (f : Flags) (x : Addr) : (s.setFlags f).read x = s.read x := by rfl

@[simp] theorem setFlags_reg (f : Flags) (x : Reg8) : (s.setFlags f).reg x = s.reg x := by cases x <;> rfl

/-! ### setPc -/

@[simp] theorem setPc_bus (v : Addr) : (s.setPc v).bus = s.bus := by
  rfl

@[simp] theorem setPc_ctl (v : Addr) : (s.setPc v).ctl = s.ctl := by
  rfl

@[simp] theorem setPc_params (v : Addr) : (s.setPc v).params = s.params := by
  rfl

@[simp] theorem setPc_input (v : Addr) : (s.setPc v).input = s.input := by
  rfl

@[simp] theorem setPc_flags (v : Addr) : (s.setPc v).flags = s.flags := by
  rfl

@[simp] theorem setPc_sp (v : Addr) : (s.setPc v).sp = s.sp := by
  rfl

@[simp] theorem setPc_read (v : Addr) (x : Addr) : (s.setPc v).read x = s.read x := by rfl

@[simp] theorem setPc_reg (v : Addr) (x : Reg8) : (s.setPc v).reg x = s.reg x := by cases x <;> rfl

/-! ### setSp -/

@[simp] theorem setSp_bus (v : Addr) : (s.setSp v).bus = s.bus := by
  rfl

@[simp] theorem setSp_ctl (v : Addr) : (s.setSp v).ctl = s.ctl := by
  rfl

@[simp] theorem setSp_params (v : Addr) : (s.setSp v).params = s.params := by
  rfl

@[simp] theorem setSp_input (v : Addr) : (s.setSp v).input = s.input := by
  rfl

@[simp] theorem setSp_flags (v : Addr) : (s.setSp v).flags = s.flags := by
  rfl

@[simp] theorem setSp_pc (v : Addr) : (s.setSp v).pc = s.pc := by
  rfl

@[simp] theorem setSp_read (v : Addr) (x : Addr) : (s.setSp v).read x = s.read x := by rfl

@[simp] theorem setSp_reg (v : Addr) (x : Reg8) : (s.setSp v).reg x = s.reg x := by cases x <;> rfl

/-! ### setBc -/

@[simp] theorem setBc_bus (v : Addr) : (s.setBc v).bus = s.bus := by
  rfl

@[simp] theorem setBc_ctl (v : Addr) : (s.setBc v).ctl = s.ctl := by
  rfl

@[simp] theorem setBc_params (v : Addr) : (s.setBc v).params = s.params := by
  rfl

@[simp] theorem setBc_input (v : Addr) : (s.setBc v).input = s.input := by
  rfl

@[simp] theorem setBc_flags (v : Addr) : (s.setBc v).flags = s.flags := by
  rfl

@[simp] theorem setBc_pc (v : Addr) : (s.setBc v).pc = s.pc := by
  rfl

@[simp] theorem setBc_sp (v : Addr) : (s.setBc v).sp = s.sp := by
  rfl

@[simp] theorem setBc_read (v : Addr) (x : Addr) : (s.setBc v).read x = s.read x := by rfl

/-! ### setDe -/

@[simp] theorem setDe_bus (v : Addr) : (s.setDe v).bus = s.bus := by
  rfl

@[simp] theorem setDe_ctl (v : Addr) : (s.setDe v).ctl = s.ctl := by
  rfl

@[simp] theorem setDe_params (v : Addr) : (s.setDe v).params = s.params := by
  rfl

@[simp] theorem setDe_input (v : Addr) : (s.setDe v).input = s.input := by
  rfl

@[simp] theorem setDe_flags (v : Addr) : (s.setDe v).flags = s.flags := by
  rfl

@[simp] theorem setDe_pc (v : Addr) : (s.setDe v).pc = s.pc := by
  rfl

@[simp] theorem setDe_sp (v : Addr) : (s.setDe v).sp = s.sp := by
  rfl

@[simp] theorem setDe_read (v : Addr) (x : Addr) : (s.setDe v).read x = s.read x := by rfl

/-! ### setHl -/

@[simp] theorem setHl_bus (v : Addr) : (s.setHl v).bus = s.bus := by
  rfl

@[simp] theorem setHl_ctl (v : Addr) : (s.setHl v).ctl = s.ctl := by
  rfl

@[simp] theorem setHl_params (v : Addr) : (s.setHl v).params = s.params := by
  rfl

@[simp] theorem setHl_input (v : Addr) : (s.setHl v).input = s.input := by
  rfl

@[simp] theorem setHl_flags (v : Addr) : (s.setHl v).flags = s.flags := by
  rfl

@[simp] theorem setHl_pc (v : Addr) : (s.setHl v).pc = s.pc := by
  rfl

@[simp] theorem setHl_sp (v : Addr) : (s.setHl v).sp = s.sp := by
  rfl

@[simp] theorem setHl_read (v : Addr) (x : Addr) : (s.setHl v).read x = s.read x := by rfl

/-! ### setAf -/

@[simp] theorem setAf_bus (v : Addr) : (s.setAf v).bus = s.bus := by
  rfl

@[simp] theorem setAf_ctl (v : Addr) : (s.setAf v).ctl = s.ctl := by
  rfl

@[simp] theorem setAf_params (v : Addr) : (s.setAf v).params = s.params := by
  rfl

@[simp] theorem setAf_input (v : Addr) : (s.setAf v).input = s.input := by
  rfl

@[simp] theorem setAf_pc (v : Addr) : (s.setAf v).pc = s.pc := by
  rfl

@[simp] theorem setAf_sp (v : Addr) : (s.setAf v).sp = s.sp := by
  rfl

@[simp] theorem setAf_read (v : Addr) (x : Addr) : (s.setAf v).read x = s.read x := by rfl

/-! ### write -/

@[simp] theorem write_ctl (a : Addr) (v : Byte) : (s.write a v).ctl = s.ctl := by
  rfl

@[simp] theorem write_params (a : Addr) (v : Byte) : (s.write a v).params = s.params := by
  rfl

@[simp] theorem write_input (a : Addr) (v : Byte) : (s.write a v).input = s.input := by
  rfl

@[simp] theorem write_flags (a : Addr) (v : Byte) : (s.write a v).flags = s.flags := by
  rfl

@[simp] theorem write_pc (a : Addr) (v : Byte) : (s.write a v).pc = s.pc := by
  rfl

@[simp] theorem write_sp (a : Addr) (v : Byte) : (s.write a v).sp = s.sp := by
  rfl

@[simp] theorem write_reg (a : Addr) (v : Byte) (x : Reg8) : (s.write a v).reg x = s.reg x := by cases x <;> rfl

/-! ### popped -/

@[simp] theorem popped_bus : (s.popped).bus = s.bus := by
  rfl

@[simp] theorem popped_ctl : (s.popped).ctl = s.ctl := by
  rfl

@[simp] theorem popped_params : (s.popped).params = s.params := by
  rfl

@[simp] theorem popped_input : (s.popped).input = s.input := by
  rfl

@[simp] theorem popped_flags : (s.popped).flags = s.flags := by
  rfl

@[simp] theorem popped_pc : (s.popped).pc = s.pc := by
  rfl

@[simp] theorem popped_read (x : Addr) : (s.popped).read x = s.read x := by rfl

@[simp] theorem popped_reg (x : Reg8) : (s.popped).reg x = s.reg x := by cases x <;> rfl

/-! ### fetched -/

@[simp] theorem fetched_bus (n : Nat) : (s.fetched n).bus = s.bus := by
  rfl

@[simp] theorem fetched_params (n : Nat) : (s.fetched n).params = s.params := by
  rfl

@[simp] theorem fetched_input (n : Nat) : (s.fetched n).input = s.input := by
  rfl

@[simp] theorem fetched_flags (n : Nat) : (s.fetched n).flags = s.flags := by
  rfl

@[simp] theorem fetched_sp (n : Nat) : (s.fetched n).sp = s.sp := by
  rfl

@[simp] theorem fetched_read (n : Nat) (x : Addr) : (s.fetched n).read x = s.read x := by rfl

@[simp] theorem fetched_reg (n : Nat) (x : Reg8) : (s.fetched n).reg x = s.reg x := by cases x <;> rfl

/-! ### raiseFatal -/

@[simp] theorem raiseFatal_bus (k : FatalKind) (a : Addr) (op : Byte) : (s.raiseFatal k a op).bus = s.bus := by
  rfl

@[simp] theorem raiseFatal_params (k : FatalKind) (a : Addr) (op : Byte) : (s.raiseFatal k a op).params = s.params := by
  rfl

@[simp] theorem raiseFatal_input (k : FatalKind) (a : Addr) (op : Byte) : (s.raiseFatal k a op).input = s.input := by
  rfl

@[simp] theorem raiseFatal_flags (k : FatalKind) (a : Addr) (op : Byte) : (s.raiseFatal k a op).flags = s.flags := by
  rfl

@[simp] theorem raiseFatal_sp (k : FatalKind) (a : Addr) (op : Byte) : (s.raiseFatal k a op).sp = s.sp := by
  rfl

@[simp] theorem raiseFatal_read (k : FatalKind) (a : Addr) (op : Byte) (x : Addr) : (s.raiseFatal k a op).read x = s.read x := by rfl

@[simp] theorem raiseFatal_reg (k : FatalKind) (a : Addr) (op : Byte) (x : Reg8) : (s.raiseFatal k a op).reg x = s.reg x := by cases x <;> rfl

/-! ### What each update writes -/

@[simp] theorem setReg_reg (r : Reg8) (v : Byte) (x : Reg8) : (s.setReg r v).reg x = if x = r then v else s.reg x := by
  cases r <;> cases x <;> rfl

@[simp] theorem setFlags_flags (f : Flags) : (s.setFlags f).flags = f := rfl

@[simp] theorem setPc_pc (v : Addr) : (s.setPc v).pc = v := rfl

@[simp] theorem setSp_sp (v : Addr) : (s.setSp v).sp = v := rfl

@[simp] theorem setBc_reg (v : Addr) (x : Reg8) :
    (s.setBc v).reg x = if x = .b then hi8 v else if x = .c then lo8 v else s.reg x := by cases x <;> rfl

@[simp] theorem setDe_reg (v : Addr) (x : Reg8) :
    (s.setDe v).reg x = if x = .d then hi8 v else if x = .e then lo8 v else s.reg x := by cases x <;> rfl

@[simp] theorem setHl_reg (v : Addr) (x : Reg8) :
    (s.setHl v).reg x = if x = .h then hi8 v else if x = .l then lo8 v else s.reg x := by cases x <;> rfl

@[simp] theorem setAf_reg (v : Addr) (x : Reg8) : (s.setAf v).reg x = if x = .a then hi8 v else s.reg x := by
  cases x <;> rfl

@[simp] theorem setAf_flags (v : Addr) : (s.setAf v).flags = Flags.ofByte (lo8 v) := rfl

@[simp] theorem write_bus (a : Addr) (v : Byte) : (s.write a v).bus = s.bus.write a v := rfl

theorem write_read (a : Addr) (v : Byte) (x : Addr) : (s.write a v).read x = (s.bus.write a v).read x := rfl

@[simp] theorem popped_sp : s.popped.sp = s.sp + 2 := rfl

@[simp] theorem fetched_ctl (n : Nat) : (s.fetched n).ctl = { s.ctl with haltBugPending := false } := rfl

/-- PC after an instruction's bytes, in the words of the claims. -/
@[simp] theorem fetched_pc (n : Nat) (h : 0 < n) : (s.fetched n).pc = s.pcAfter n := by
  obtain ⟨m, rfl⟩ : ∃ m, n = m + 1 := ⟨n - 1, by omega⟩
  show s.pc + s.opcodeStep + BitVec.ofNat 16 m = s.pcAfter (m + 1)
  unfold opcodeStep pcAfter
  split
  · simp
  · rw [BitVec.add_assoc, Nat.add_comm m 1, BitVec.ofNat_add]; rfl

@[simp] theorem raiseFatal_pc (k : FatalKind) (a : Addr) (op : Byte) : (s.raiseFatal k a op).pc = a := rfl

@[simp] theorem raiseFatal_ctl (k : FatalKind) (a : Addr) (op : Byte) :
    (s.raiseFatal k a op).ctl = { s.ctl with runState := .fatal, fatalRecord := some ⟨k, a, op⟩ } := rfl

/-! ### Operands -/

@[simp] theorem writeOperand_reg (r : Reg8) (v : Byte) : s.writeOperand (.reg r) v = s.setReg r v := rfl

@[simp] theorem writeOperand_memHl (v : Byte) : s.writeOperand .memHl v = s.write s.hl v := rfl

@[simp] theorem readOperand_reg (r : Reg8) : s.readOperand (.reg r) = s.reg r := rfl

@[simp] theorem readOperand_memHl : s.readOperand .memHl = s.read s.hl := rfl

@[simp] theorem fetched_hl (n : Nat) : (s.fetched n).hl = s.hl := rfl

/-- Everything a push does (R7). -/
theorem push16_effect (v : Addr) :
    s.push16 v = ({ s with bus := (s.bus.write (s.sp - 1) (hi8 v)).write (s.sp - 2) (lo8 v) }).setSp (s.sp - 2) := rfl

/-- Everything a return does (R328): SP two higher, PC the popped word. -/
theorem returnToCaller_effect : s.returnToCaller = (s.setSp (s.sp + 2)).setPc s.popValue := rfl

/-- Everything a dispatch does (R413). -/
theorem dispatchInterrupt_effect :
    s.dispatchInterrupt =
      (({ s with ctl := { s.ctl with ime := false, eiDelay := 0 },
                 bus := { s.bus with intFlag :=
                   s.bus.intFlag &&& ~~~(BitVec.twoPow 5 (interruptChoice s.bus.pending)) } }).push16 s.pc).setPc
        (interruptVector (interruptChoice s.bus.pending)) := rfl

end State

end Sys2Proof.Machine
end

