-- ==== Sys2Proof/Laws/Families.lean ====
section
/-! SUPPORT. Every instruction belongs to one family, and a family's meaning is one function of the state: a proof about all
instructions is a case split over the families instead of over the constructors of `Instr`. -/

namespace Sys2Proof.Machine

/-- `Means i f`: the instruction `i` of a family runs as the function `f`. -/
inductive Means : Instr → (State → State) → Prop where
  | ldRegReg (x y : Reg8) : Means (Instr.ldRegReg x y) (ldRegReg x y)
  | ldRegImm (r : Reg8) (n : Byte) : Means (Instr.ldRegImm r n) (ldRegImm r n)
  | ldRegMemHl (r : Reg8) : Means (Instr.ldRegMemHl r) (ldRegMemHl r)
  | ldMemHlReg (r : Reg8) : Means (Instr.ldMemHlReg r) (ldMemHlReg r)
  | ldMemHlN (n : Byte) : Means (.ldMemHlN n) (ldMemHlImm n)
  | ldAPointer (p : Pointer) : Means (Instr.ldAPointer p) (ldAPointer p)
  | ldPointerA (p : Pointer) : Means (Instr.ldPointerA p) (ldPointerA p)
  | ldAMemNn (nn : Addr) : Means (.ldAMemNn nn) (ldAAbs nn)
  | ldMemNnA (nn : Addr) : Means (.ldMemNnA nn) (ldAbsA nn)
  | ldAHlStep (m : HlStep) : Means (Instr.ldAHlStep m) (ldAHlStep m)
  | ldHlStepA (m : HlStep) : Means (Instr.ldHlStepA m) (ldHlStepA m)
  | ldhAMemC : Means .ldhAMemC (ldhAC)
  | ldhMemCA : Means .ldhMemCA (ldhCA)
  | ldhAMemN (n : Byte) : Means (.ldhAMemN n) (ldhAImm n)
  | ldhMemNA (n : Byte) : Means (.ldhMemNA n) (ldhImmA n)
  | ldPairImm (r : Reg16) (nn : Addr) : Means (Instr.ldPairImm r nn) (ldPairImm r nn)
  | ldMemNnSp (nn : Addr) : Means (.ldMemNnSp nn) (ldAbsSp nn)
  | ldSpHl : Means .ldSpHl (ldSpFromHl)
  | ldHlSpE (e : Byte) : Means (.ldHlSpE e) (ldHlFromSp e)
  | push (r : StackReg) : Means (Instr.push r) (pushPair r)
  | pop (r : StackReg) : Means (Instr.pop r) (popPair r)
  | alu (op : AluOp) (x : Operand8) : Means (Instr.alu op x) (aluOperand op x)
  | aluImm (op : AluOp) (n : Byte) : Means (Instr.aluImm op n) (aluImm op n)
  | inc (x : Operand8) : Means (Instr.inc x) (incOperand x)
  | dec (x : Operand8) : Means (Instr.dec x) (decOperand x)
  | addHl (r : Reg16) : Means (Instr.addHl r) (addHlPair r)
  | incPair (r : Reg16) : Means (Instr.incPair r) (incPair r)
  | decPair (r : Reg16) : Means (Instr.decPair r) (decPair r)
  | addSpE (e : Byte) : Means (.addSpE e) (addSpImm e)
  | rlca : Means .rlca (rotateA .rlc)
  | rrca : Means .rrca (rotateA .rrc)
  | rla : Means .rla (rotateA .rl)
  | rra : Means .rra (rotateA .rr)
  | daa : Means .daa (decimalAdjust)
  | cpl : Means .cpl (complementA)
  | scf : Means .scf (setCarry)
  | ccf : Means .ccf (complementCarry)
  | shift (op : ShiftOp) (x : Operand8) : Means (Instr.shift op x) (shiftOperand op x)
  | bit (b : Fin 8) (x : Operand8) : Means (Instr.bit b x) (testBit b x)
  | res (b : Fin 8) (x : Operand8) : Means (Instr.res b x) (clearBit b x)
  | set (b : Fin 8) (x : Operand8) : Means (Instr.set b x) (setBit b x)
  | prefixCb : Means .prefixCb (cbPageAtPc)
  | jpNn (nn : Addr) : Means (.jpNn nn) (jumpAbs nn)
  | jpIf (cc : Cond) (nn : Addr) : Means (Instr.jpIf cc nn) (jumpAbsIf cc nn)
  | jpHl : Means .jpHl (jumpHl)
  | jrE (e : Byte) : Means (.jrE e) (jumpRel e)
  | jrIf (cc : Cond) (e : Byte) : Means (Instr.jrIf cc e) (jumpRelIf cc e)
  | callNn (nn : Addr) : Means (.callNn nn) (callAbs nn)
  | callIf (cc : Cond) (nn : Addr) : Means (Instr.callIf cc nn) (callAbsIf cc nn)
  | ret : Means .ret (ret)
  | retIf (cc : Cond) : Means (Instr.retIf cc) (retIf cc)
  | reti : Means .reti (retInterrupt)
  | rst (t : Fin 8) : Means (Instr.rst t) (restart t)
  | nop : Means .nop (noOperation)
  | di : Means .di (disableInterrupts)
  | ei : Means .ei (enableInterrupts)
  | halt : Means .halt (haltCpu)
  | stop (n : Byte) : Means (.stop n) (stopCpu)
  | illegal (op : IllegalByte) : Means (Instr.illegal op) (illegalByte op.byte)

/-- What an instruction of a family answers, in every state. -/
theorem exec_of_means {i : Instr} {f : State → State} (h : Means i f) (s : State) : exec i s = .next (f s) := by
  cases h
  case ldRegReg x y => cases x <;> cases y <;> rfl
  case ldRegImm r n => cases r <;> rfl
  case ldRegMemHl r => cases r <;> rfl
  case ldMemHlReg r => cases r <;> rfl
  case ldMemHlN => rfl
  case ldAPointer p => cases p <;> rfl
  case ldPointerA p => cases p <;> rfl
  case ldAMemNn => rfl
  case ldMemNnA => rfl
  case ldAHlStep m => cases m <;> rfl
  case ldHlStepA m => cases m <;> rfl
  case ldhAMemC => rfl
  case ldhMemCA => rfl
  case ldhAMemN => rfl
  case ldhMemNA => rfl
  case ldPairImm r nn => cases r <;> rfl
  case ldMemNnSp => rfl
  case ldSpHl => rfl
  case ldHlSpE => rfl
  case push r => cases r <;> rfl
  case pop r => cases r <;> rfl
  case alu op x => cases op <;> (rcases x with r | _) <;> (try cases r) <;> rfl
  case aluImm op n => cases op <;> rfl
  case inc x => (rcases x with r | _) <;> (try cases r) <;> rfl
  case dec x => (rcases x with r | _) <;> (try cases r) <;> rfl
  case addHl r => cases r <;> rfl
  case incPair r => cases r <;> rfl
  case decPair r => cases r <;> rfl
  case addSpE => rfl
  case rlca => rfl
  case rrca => rfl
  case rla => rfl
  case rra => rfl
  case daa => rfl
  case cpl => rfl
  case scf => rfl
  case ccf => rfl
  case shift op x => cases op <;> (rcases x with r | _) <;> (try cases r) <;> rfl
  case bit b x => fin_cases b <;> (rcases x with r | _) <;> (try cases r) <;> rfl
  case res b x => fin_cases b <;> (rcases x with r | _) <;> (try cases r) <;> rfl
  case set b x => fin_cases b <;> (rcases x with r | _) <;> (try cases r) <;> rfl
  case prefixCb => rfl
  case jpNn => rfl
  case jpIf cc nn => cases cc <;> rfl
  case jpHl => rfl
  case jrE => rfl
  case jrIf cc e => cases cc <;> rfl
  case callNn => rfl
  case callIf cc nn => cases cc <;> rfl
  case ret => rfl
  case retIf cc => cases cc <;> rfl
  case reti => rfl
  case rst t => fin_cases t <;> rfl
  case nop => rfl
  case di => rfl
  case ei => rfl
  case halt => rfl
  case stop => rfl
  case illegal op => cases op <;> rfl

/-- Every instruction belongs to a family. -/
theorem means_exists (i : Instr) : ∃ f, Means i f := by
  cases i
  case ldBcNn nn => exact ⟨_, .ldPairImm .bc nn⟩
  case ldBN n => exact ⟨_, .ldRegImm .b n⟩
  case ldMemNnSp nn => exact ⟨_, .ldMemNnSp nn⟩
  case ldCN n => exact ⟨_, .ldRegImm .c n⟩
  case stop n => exact ⟨_, .stop n⟩
  case ldDeNn nn => exact ⟨_, .ldPairImm .de nn⟩
  case ldDN n => exact ⟨_, .ldRegImm .d n⟩
  case jrE e => exact ⟨_, .jrE e⟩
  case ldEN n => exact ⟨_, .ldRegImm .e n⟩
  case jrNzE e => exact ⟨_, .jrIf .nz e⟩
  case ldHlNn nn => exact ⟨_, .ldPairImm .hl nn⟩
  case ldHN n => exact ⟨_, .ldRegImm .h n⟩
  case jrZE e => exact ⟨_, .jrIf .z e⟩
  case ldLN n => exact ⟨_, .ldRegImm .l n⟩
  case jrNcE e => exact ⟨_, .jrIf .nc e⟩
  case ldSpNn nn => exact ⟨_, .ldPairImm .sp nn⟩
  case ldMemHlN n => exact ⟨_, .ldMemHlN n⟩
  case jrCE e => exact ⟨_, .jrIf .c e⟩
  case ldAN n => exact ⟨_, .ldRegImm .a n⟩
  case jpNzNn nn => exact ⟨_, .jpIf .nz nn⟩
  case jpNn nn => exact ⟨_, .jpNn nn⟩
  case callNzNn nn => exact ⟨_, .callIf .nz nn⟩
  case addAN n => exact ⟨_, .aluImm .add n⟩
  case jpZNn nn => exact ⟨_, .jpIf .z nn⟩
  case callZNn nn => exact ⟨_, .callIf .z nn⟩
  case callNn nn => exact ⟨_, .callNn nn⟩
  case adcAN n => exact ⟨_, .aluImm .adc n⟩
  case jpNcNn nn => exact ⟨_, .jpIf .nc nn⟩
  case callNcNn nn => exact ⟨_, .callIf .nc nn⟩
  case subN n => exact ⟨_, .aluImm .sub n⟩
  case jpCNn nn => exact ⟨_, .jpIf .c nn⟩
  case callCNn nn => exact ⟨_, .callIf .c nn⟩
  case sbcAN n => exact ⟨_, .aluImm .sbc n⟩
  case ldhMemNA n => exact ⟨_, .ldhMemNA n⟩
  case andN n => exact ⟨_, .aluImm .and n⟩
  case addSpE e => exact ⟨_, .addSpE e⟩
  case ldMemNnA nn => exact ⟨_, .ldMemNnA nn⟩
  case xorN n => exact ⟨_, .aluImm .xor n⟩
  case ldhAMemN n => exact ⟨_, .ldhAMemN n⟩
  case orN n => exact ⟨_, .aluImm .or n⟩
  case ldHlSpE e => exact ⟨_, .ldHlSpE e⟩
  case ldAMemNn nn => exact ⟨_, .ldAMemNn nn⟩
  case cpAN n => exact ⟨_, .aluImm .cp n⟩
  case nop => exact ⟨_, .nop⟩
  case ldMemBcA => exact ⟨_, .ldPointerA .bc⟩
  case incBc => exact ⟨_, .incPair .bc⟩
  case incB => exact ⟨_, .inc (.reg .b)⟩
  case decB => exact ⟨_, .dec (.reg .b)⟩
  case rlca => exact ⟨_, .rlca⟩
  case addHlBc => exact ⟨_, .addHl .bc⟩
  case ldAMemBc => exact ⟨_, .ldAPointer .bc⟩
  case decBc => exact ⟨_, .decPair .bc⟩
  case incC => exact ⟨_, .inc (.reg .c)⟩
  case decC => exact ⟨_, .dec (.reg .c)⟩
  case rrca => exact ⟨_, .rrca⟩
  case ldMemDeA => exact ⟨_, .ldPointerA .de⟩
  case incDe => exact ⟨_, .incPair .de⟩
  case incD => exact ⟨_, .inc (.reg .d)⟩
  case decD => exact ⟨_, .dec (.reg .d)⟩
  case rla => exact ⟨_, .rla⟩
  case addHlDe => exact ⟨_, .addHl .de⟩
  case ldAMemDe => exact ⟨_, .ldAPointer .de⟩
  case decDe => exact ⟨_, .decPair .de⟩
  case incE => exact ⟨_, .inc (.reg .e)⟩
  case decE => exact ⟨_, .dec (.reg .e)⟩
  case rra => exact ⟨_, .rra⟩
  case ldMemHlIncA => exact ⟨_, .ldHlStepA .inc⟩
  case incHl => exact ⟨_, .incPair .hl⟩
  case incH => exact ⟨_, .inc (.reg .h)⟩
  case decH => exact ⟨_, .dec (.reg .h)⟩
  case daa => exact ⟨_, .daa⟩
  case addHlHl => exact ⟨_, .addHl .hl⟩
  case ldAMemHlInc => exact ⟨_, .ldAHlStep .inc⟩
  case decHl => exact ⟨_, .decPair .hl⟩
  case incL => exact ⟨_, .inc (.reg .l)⟩
  case decL => exact ⟨_, .dec (.reg .l)⟩
  case cpl => exact ⟨_, .cpl⟩
  case ldMemHlDecA => exact ⟨_, .ldHlStepA .dec⟩
  case incSp => exact ⟨_, .incPair .sp⟩
  case incMemHl => exact ⟨_, .inc .memHl⟩
  case decMemHl => exact ⟨_, .dec .memHl⟩
  case scf => exact ⟨_, .scf⟩
  case addHlSp => exact ⟨_, .addHl .sp⟩
  case ldAMemHlDec => exact ⟨_, .ldAHlStep .dec⟩
  case decSp => exact ⟨_, .decPair .sp⟩
  case incA => exact ⟨_, .inc (.reg .a)⟩
  case decA => exact ⟨_, .dec (.reg .a)⟩
  case ccf => exact ⟨_, .ccf⟩
  case ldBB => exact ⟨_, .ldRegReg .b .b⟩
  case ldBC => exact ⟨_, .ldRegReg .b .c⟩
  case ldBD => exact ⟨_, .ldRegReg .b .d⟩
  case ldBE => exact ⟨_, .ldRegReg .b .e⟩
  case ldBH => exact ⟨_, .ldRegReg .b .h⟩
  case ldBL => exact ⟨_, .ldRegReg .b .l⟩
  case ldBMemHl => exact ⟨_, .ldRegMemHl .b⟩
  case ldBA => exact ⟨_, .ldRegReg .b .a⟩
  case ldCB => exact ⟨_, .ldRegReg .c .b⟩
  case ldCC => exact ⟨_, .ldRegReg .c .c⟩
  case ldCD => exact ⟨_, .ldRegReg .c .d⟩
  case ldCE => exact ⟨_, .ldRegReg .c .e⟩
  case ldCH => exact ⟨_, .ldRegReg .c .h⟩
  case ldCL => exact ⟨_, .ldRegReg .c .l⟩
  case ldCMemHl => exact ⟨_, .ldRegMemHl .c⟩
  case ldCA => exact ⟨_, .ldRegReg .c .a⟩
  case ldDB => exact ⟨_, .ldRegReg .d .b⟩
  case ldDC => exact ⟨_, .ldRegReg .d .c⟩
  case ldDD => exact ⟨_, .ldRegReg .d .d⟩
  case ldDE => exact ⟨_, .ldRegReg .d .e⟩
  case ldDH => exact ⟨_, .ldRegReg .d .h⟩
  case ldDL => exact ⟨_, .ldRegReg .d .l⟩
  case ldDMemHl => exact ⟨_, .ldRegMemHl .d⟩
  case ldDA => exact ⟨_, .ldRegReg .d .a⟩
  case ldEB => exact ⟨_, .ldRegReg .e .b⟩
  case ldEC => exact ⟨_, .ldRegReg .e .c⟩
  case ldED => exact ⟨_, .ldRegReg .e .d⟩
  case ldEE => exact ⟨_, .ldRegReg .e .e⟩
  case ldEH => exact ⟨_, .ldRegReg .e .h⟩
  case ldEL => exact ⟨_, .ldRegReg .e .l⟩
  case ldEMemHl => exact ⟨_, .ldRegMemHl .e⟩
  case ldEA => exact ⟨_, .ldRegReg .e .a⟩
  case ldHB => exact ⟨_, .ldRegReg .h .b⟩
  case ldHC => exact ⟨_, .ldRegReg .h .c⟩
  case ldHD => exact ⟨_, .ldRegReg .h .d⟩
  case ldHE => exact ⟨_, .ldRegReg .h .e⟩
  case ldHH => exact ⟨_, .ldRegReg .h .h⟩
  case ldHL => exact ⟨_, .ldRegReg .h .l⟩
  case ldHMemHl => exact ⟨_, .ldRegMemHl .h⟩
  case ldHA => exact ⟨_, .ldRegReg .h .a⟩
  case ldLB => exact ⟨_, .ldRegReg .l .b⟩
  case ldLC => exact ⟨_, .ldRegReg .l .c⟩
  case ldLD => exact ⟨_, .ldRegReg .l .d⟩
  case ldLE => exact ⟨_, .ldRegReg .l .e⟩
  case ldLH => exact ⟨_, .ldRegReg .l .h⟩
  case ldLL => exact ⟨_, .ldRegReg .l .l⟩
  case ldLMemHl => exact ⟨_, .ldRegMemHl .l⟩
  case ldLA => exact ⟨_, .ldRegReg .l .a⟩
  case ldMemHlB => exact ⟨_, .ldMemHlReg .b⟩
  case ldMemHlC => exact ⟨_, .ldMemHlReg .c⟩
  case ldMemHlD => exact ⟨_, .ldMemHlReg .d⟩
  case ldMemHlE => exact ⟨_, .ldMemHlReg .e⟩
  case ldMemHlH => exact ⟨_, .ldMemHlReg .h⟩
  case ldMemHlL => exact ⟨_, .ldMemHlReg .l⟩
  case halt => exact ⟨_, .halt⟩
  case ldMemHlA => exact ⟨_, .ldMemHlReg .a⟩
  case ldAB => exact ⟨_, .ldRegReg .a .b⟩
  case ldAC => exact ⟨_, .ldRegReg .a .c⟩
  case ldAD => exact ⟨_, .ldRegReg .a .d⟩
  case ldAE => exact ⟨_, .ldRegReg .a .e⟩
  case ldAH => exact ⟨_, .ldRegReg .a .h⟩
  case ldAL => exact ⟨_, .ldRegReg .a .l⟩
  case ldAMemHl => exact ⟨_, .ldRegMemHl .a⟩
  case ldAA => exact ⟨_, .ldRegReg .a .a⟩
  case addAB => exact ⟨_, .alu .add (.reg .b)⟩
  case addAC => exact ⟨_, .alu .add (.reg .c)⟩
  case addAD => exact ⟨_, .alu .add (.reg .d)⟩
  case addAE => exact ⟨_, .alu .add (.reg .e)⟩
  case addAH => exact ⟨_, .alu .add (.reg .h)⟩
  case addAL => exact ⟨_, .alu .add (.reg .l)⟩
  case addAMemHl => exact ⟨_, .alu .add .memHl⟩
  case addAA => exact ⟨_, .alu .add (.reg .a)⟩
  case adcAB => exact ⟨_, .alu .adc (.reg .b)⟩
  case adcAC => exact ⟨_, .alu .adc (.reg .c)⟩
  case adcAD => exact ⟨_, .alu .adc (.reg .d)⟩
  case adcAE => exact ⟨_, .alu .adc (.reg .e)⟩
  case adcAH => exact ⟨_, .alu .adc (.reg .h)⟩
  case adcAL => exact ⟨_, .alu .adc (.reg .l)⟩
  case adcAMemHl => exact ⟨_, .alu .adc .memHl⟩
  case adcAA => exact ⟨_, .alu .adc (.reg .a)⟩
  case subB => exact ⟨_, .alu .sub (.reg .b)⟩
  case subC => exact ⟨_, .alu .sub (.reg .c)⟩
  case subD => exact ⟨_, .alu .sub (.reg .d)⟩
  case subE => exact ⟨_, .alu .sub (.reg .e)⟩
  case subH => exact ⟨_, .alu .sub (.reg .h)⟩
  case subL => exact ⟨_, .alu .sub (.reg .l)⟩
  case subMemHl => exact ⟨_, .alu .sub .memHl⟩
  case subA => exact ⟨_, .alu .sub (.reg .a)⟩
  case sbcAB => exact ⟨_, .alu .sbc (.reg .b)⟩
  case sbcAC => exact ⟨_, .alu .sbc (.reg .c)⟩
  case sbcAD => exact ⟨_, .alu .sbc (.reg .d)⟩
  case sbcAE => exact ⟨_, .alu .sbc (.reg .e)⟩
  case sbcAH => exact ⟨_, .alu .sbc (.reg .h)⟩
  case sbcAL => exact ⟨_, .alu .sbc (.reg .l)⟩
  case sbcAMemHl => exact ⟨_, .alu .sbc .memHl⟩
  case sbcAA => exact ⟨_, .alu .sbc (.reg .a)⟩
  case andB => exact ⟨_, .alu .and (.reg .b)⟩
  case andC => exact ⟨_, .alu .and (.reg .c)⟩
  case andD => exact ⟨_, .alu .and (.reg .d)⟩
  case andE => exact ⟨_, .alu .and (.reg .e)⟩
  case andH => exact ⟨_, .alu .and (.reg .h)⟩
  case andL => exact ⟨_, .alu .and (.reg .l)⟩
  case andMemHl => exact ⟨_, .alu .and .memHl⟩
  case andA => exact ⟨_, .alu .and (.reg .a)⟩
  case xorB => exact ⟨_, .alu .xor (.reg .b)⟩
  case xorC => exact ⟨_, .alu .xor (.reg .c)⟩
  case xorD => exact ⟨_, .alu .xor (.reg .d)⟩
  case xorE => exact ⟨_, .alu .xor (.reg .e)⟩
  case xorH => exact ⟨_, .alu .xor (.reg .h)⟩
  case xorL => exact ⟨_, .alu .xor (.reg .l)⟩
  case xorMemHl => exact ⟨_, .alu .xor .memHl⟩
  case xorA => exact ⟨_, .alu .xor (.reg .a)⟩
  case orB => exact ⟨_, .alu .or (.reg .b)⟩
  case orC => exact ⟨_, .alu .or (.reg .c)⟩
  case orD => exact ⟨_, .alu .or (.reg .d)⟩
  case orE => exact ⟨_, .alu .or (.reg .e)⟩
  case orH => exact ⟨_, .alu .or (.reg .h)⟩
  case orL => exact ⟨_, .alu .or (.reg .l)⟩
  case orMemHl => exact ⟨_, .alu .or .memHl⟩
  case orA => exact ⟨_, .alu .or (.reg .a)⟩
  case cpAB => exact ⟨_, .alu .cp (.reg .b)⟩
  case cpAC => exact ⟨_, .alu .cp (.reg .c)⟩
  case cpAD => exact ⟨_, .alu .cp (.reg .d)⟩
  case cpAE => exact ⟨_, .alu .cp (.reg .e)⟩
  case cpAH => exact ⟨_, .alu .cp (.reg .h)⟩
  case cpAL => exact ⟨_, .alu .cp (.reg .l)⟩
  case cpAMemHl => exact ⟨_, .alu .cp .memHl⟩
  case cpAA => exact ⟨_, .alu .cp (.reg .a)⟩
  case retNz => exact ⟨_, .retIf .nz⟩
  case popBc => exact ⟨_, .pop .bc⟩
  case pushBc => exact ⟨_, .push .bc⟩
  case rst00 => exact ⟨_, .rst 0⟩
  case retZ => exact ⟨_, .retIf .z⟩
  case ret => exact ⟨_, .ret⟩
  case prefixCb => exact ⟨_, .prefixCb⟩
  case rst08 => exact ⟨_, .rst 1⟩
  case retNc => exact ⟨_, .retIf .nc⟩
  case popDe => exact ⟨_, .pop .de⟩
  case illegalD3 => exact ⟨_, .illegal .d3⟩
  case pushDe => exact ⟨_, .push .de⟩
  case rst10 => exact ⟨_, .rst 2⟩
  case retC => exact ⟨_, .retIf .c⟩
  case reti => exact ⟨_, .reti⟩
  case illegalDB => exact ⟨_, .illegal .db⟩
  case illegalDD => exact ⟨_, .illegal .dd⟩
  case rst18 => exact ⟨_, .rst 3⟩
  case popHl => exact ⟨_, .pop .hl⟩
  case ldhMemCA => exact ⟨_, .ldhMemCA⟩
  case illegalE3 => exact ⟨_, .illegal .e3⟩
  case illegalE4 => exact ⟨_, .illegal .e4⟩
  case pushHl => exact ⟨_, .push .hl⟩
  case rst20 => exact ⟨_, .rst 4⟩
  case jpHl => exact ⟨_, .jpHl⟩
  case illegalEB => exact ⟨_, .illegal .eb⟩
  case illegalEC => exact ⟨_, .illegal .ec⟩
  case illegalED => exact ⟨_, .illegal .ed⟩
  case rst28 => exact ⟨_, .rst 5⟩
  case popAf => exact ⟨_, .pop .af⟩
  case ldhAMemC => exact ⟨_, .ldhAMemC⟩
  case di => exact ⟨_, .di⟩
  case illegalF4 => exact ⟨_, .illegal .f4⟩
  case pushAf => exact ⟨_, .push .af⟩
  case rst30 => exact ⟨_, .rst 6⟩
  case ldSpHl => exact ⟨_, .ldSpHl⟩
  case ei => exact ⟨_, .ei⟩
  case illegalFC => exact ⟨_, .illegal .fc⟩
  case illegalFD => exact ⟨_, .illegal .fd⟩
  case rst38 => exact ⟨_, .rst 7⟩
  case cbRlcB => exact ⟨_, .shift .rlc (.reg .b)⟩
  case cbRlcC => exact ⟨_, .shift .rlc (.reg .c)⟩
  case cbRlcD => exact ⟨_, .shift .rlc (.reg .d)⟩
  case cbRlcE => exact ⟨_, .shift .rlc (.reg .e)⟩
  case cbRlcH => exact ⟨_, .shift .rlc (.reg .h)⟩
  case cbRlcL => exact ⟨_, .shift .rlc (.reg .l)⟩
  case cbRlcMemHl => exact ⟨_, .shift .rlc .memHl⟩
  case cbRlcA => exact ⟨_, .shift .rlc (.reg .a)⟩
  case cbRrcB => exact ⟨_, .shift .rrc (.reg .b)⟩
  case cbRrcC => exact ⟨_, .shift .rrc (.reg .c)⟩
  case cbRrcD => exact ⟨_, .shift .rrc (.reg .d)⟩
  case cbRrcE => exact ⟨_, .shift .rrc (.reg .e)⟩
  case cbRrcH => exact ⟨_, .shift .rrc (.reg .h)⟩
  case cbRrcL => exact ⟨_, .shift .rrc (.reg .l)⟩
  case cbRrcMemHl => exact ⟨_, .shift .rrc .memHl⟩
  case cbRrcA => exact ⟨_, .shift .rrc (.reg .a)⟩
  case cbRlB => exact ⟨_, .shift .rl (.reg .b)⟩
  case cbRlC => exact ⟨_, .shift .rl (.reg .c)⟩
  case cbRlD => exact ⟨_, .shift .rl (.reg .d)⟩
  case cbRlE => exact ⟨_, .shift .rl (.reg .e)⟩
  case cbRlH => exact ⟨_, .shift .rl (.reg .h)⟩
  case cbRlL => exact ⟨_, .shift .rl (.reg .l)⟩
  case cbRlMemHl => exact ⟨_, .shift .rl .memHl⟩
  case cbRlA => exact ⟨_, .shift .rl (.reg .a)⟩
  case cbRrB => exact ⟨_, .shift .rr (.reg .b)⟩
  case cbRrC => exact ⟨_, .shift .rr (.reg .c)⟩
  case cbRrD => exact ⟨_, .shift .rr (.reg .d)⟩
  case cbRrE => exact ⟨_, .shift .rr (.reg .e)⟩
  case cbRrH => exact ⟨_, .shift .rr (.reg .h)⟩
  case cbRrL => exact ⟨_, .shift .rr (.reg .l)⟩
  case cbRrMemHl => exact ⟨_, .shift .rr .memHl⟩
  case cbRrA => exact ⟨_, .shift .rr (.reg .a)⟩
  case cbSlaB => exact ⟨_, .shift .sla (.reg .b)⟩
  case cbSlaC => exact ⟨_, .shift .sla (.reg .c)⟩
  case cbSlaD => exact ⟨_, .shift .sla (.reg .d)⟩
  case cbSlaE => exact ⟨_, .shift .sla (.reg .e)⟩
  case cbSlaH => exact ⟨_, .shift .sla (.reg .h)⟩
  case cbSlaL => exact ⟨_, .shift .sla (.reg .l)⟩
  case cbSlaMemHl => exact ⟨_, .shift .sla .memHl⟩
  case cbSlaA => exact ⟨_, .shift .sla (.reg .a)⟩
  case cbSraB => exact ⟨_, .shift .sra (.reg .b)⟩
  case cbSraC => exact ⟨_, .shift .sra (.reg .c)⟩
  case cbSraD => exact ⟨_, .shift .sra (.reg .d)⟩
  case cbSraE => exact ⟨_, .shift .sra (.reg .e)⟩
  case cbSraH => exact ⟨_, .shift .sra (.reg .h)⟩
  case cbSraL => exact ⟨_, .shift .sra (.reg .l)⟩
  case cbSraMemHl => exact ⟨_, .shift .sra .memHl⟩
  case cbSraA => exact ⟨_, .shift .sra (.reg .a)⟩
  case cbSwapB => exact ⟨_, .shift .swap (.reg .b)⟩
  case cbSwapC => exact ⟨_, .shift .swap (.reg .c)⟩
  case cbSwapD => exact ⟨_, .shift .swap (.reg .d)⟩
  case cbSwapE => exact ⟨_, .shift .swap (.reg .e)⟩
  case cbSwapH => exact ⟨_, .shift .swap (.reg .h)⟩
  case cbSwapL => exact ⟨_, .shift .swap (.reg .l)⟩
  case cbSwapMemHl => exact ⟨_, .shift .swap .memHl⟩
  case cbSwapA => exact ⟨_, .shift .swap (.reg .a)⟩
  case cbSrlB => exact ⟨_, .shift .srl (.reg .b)⟩
  case cbSrlC => exact ⟨_, .shift .srl (.reg .c)⟩
  case cbSrlD => exact ⟨_, .shift .srl (.reg .d)⟩
  case cbSrlE => exact ⟨_, .shift .srl (.reg .e)⟩
  case cbSrlH => exact ⟨_, .shift .srl (.reg .h)⟩
  case cbSrlL => exact ⟨_, .shift .srl (.reg .l)⟩
  case cbSrlMemHl => exact ⟨_, .shift .srl .memHl⟩
  case cbSrlA => exact ⟨_, .shift .srl (.reg .a)⟩
  case cbBit0B => exact ⟨_, .bit 0 (.reg .b)⟩
  case cbBit0C => exact ⟨_, .bit 0 (.reg .c)⟩
  case cbBit0D => exact ⟨_, .bit 0 (.reg .d)⟩
  case cbBit0E => exact ⟨_, .bit 0 (.reg .e)⟩
  case cbBit0H => exact ⟨_, .bit 0 (.reg .h)⟩
  case cbBit0L => exact ⟨_, .bit 0 (.reg .l)⟩
  case cbBit0MemHl => exact ⟨_, .bit 0 .memHl⟩
  case cbBit0A => exact ⟨_, .bit 0 (.reg .a)⟩
  case cbBit1B => exact ⟨_, .bit 1 (.reg .b)⟩
  case cbBit1C => exact ⟨_, .bit 1 (.reg .c)⟩
  case cbBit1D => exact ⟨_, .bit 1 (.reg .d)⟩
  case cbBit1E => exact ⟨_, .bit 1 (.reg .e)⟩
  case cbBit1H => exact ⟨_, .bit 1 (.reg .h)⟩
  case cbBit1L => exact ⟨_, .bit 1 (.reg .l)⟩
  case cbBit1MemHl => exact ⟨_, .bit 1 .memHl⟩
  case cbBit1A => exact ⟨_, .bit 1 (.reg .a)⟩
  case cbBit2B => exact ⟨_, .bit 2 (.reg .b)⟩
  case cbBit2C => exact ⟨_, .bit 2 (.reg .c)⟩
  case cbBit2D => exact ⟨_, .bit 2 (.reg .d)⟩
  case cbBit2E => exact ⟨_, .bit 2 (.reg .e)⟩
  case cbBit2H => exact ⟨_, .bit 2 (.reg .h)⟩
  case cbBit2L => exact ⟨_, .bit 2 (.reg .l)⟩
  case cbBit2MemHl => exact ⟨_, .bit 2 .memHl⟩
  case cbBit2A => exact ⟨_, .bit 2 (.reg .a)⟩
  case cbBit3B => exact ⟨_, .bit 3 (.reg .b)⟩
  case cbBit3C => exact ⟨_, .bit 3 (.reg .c)⟩
  case cbBit3D => exact ⟨_, .bit 3 (.reg .d)⟩
  case cbBit3E => exact ⟨_, .bit 3 (.reg .e)⟩
  case cbBit3H => exact ⟨_, .bit 3 (.reg .h)⟩
  case cbBit3L => exact ⟨_, .bit 3 (.reg .l)⟩
  case cbBit3MemHl => exact ⟨_, .bit 3 .memHl⟩
  case cbBit3A => exact ⟨_, .bit 3 (.reg .a)⟩
  case cbBit4B => exact ⟨_, .bit 4 (.reg .b)⟩
  case cbBit4C => exact ⟨_, .bit 4 (.reg .c)⟩
  case cbBit4D => exact ⟨_, .bit 4 (.reg .d)⟩
  case cbBit4E => exact ⟨_, .bit 4 (.reg .e)⟩
  case cbBit4H => exact ⟨_, .bit 4 (.reg .h)⟩
  case cbBit4L => exact ⟨_, .bit 4 (.reg .l)⟩
  case cbBit4MemHl => exact ⟨_, .bit 4 .memHl⟩
  case cbBit4A => exact ⟨_, .bit 4 (.reg .a)⟩
  case cbBit5B => exact ⟨_, .bit 5 (.reg .b)⟩
  case cbBit5C => exact ⟨_, .bit 5 (.reg .c)⟩
  case cbBit5D => exact ⟨_, .bit 5 (.reg .d)⟩
  case cbBit5E => exact ⟨_, .bit 5 (.reg .e)⟩
  case cbBit5H => exact ⟨_, .bit 5 (.reg .h)⟩
  case cbBit5L => exact ⟨_, .bit 5 (.reg .l)⟩
  case cbBit5MemHl => exact ⟨_, .bit 5 .memHl⟩
  case cbBit5A => exact ⟨_, .bit 5 (.reg .a)⟩
  case cbBit6B => exact ⟨_, .bit 6 (.reg .b)⟩
  case cbBit6C => exact ⟨_, .bit 6 (.reg .c)⟩
  case cbBit6D => exact ⟨_, .bit 6 (.reg .d)⟩
  case cbBit6E => exact ⟨_, .bit 6 (.reg .e)⟩
  case cbBit6H => exact ⟨_, .bit 6 (.reg .h)⟩
  case cbBit6L => exact ⟨_, .bit 6 (.reg .l)⟩
  case cbBit6MemHl => exact ⟨_, .bit 6 .memHl⟩
  case cbBit6A => exact ⟨_, .bit 6 (.reg .a)⟩
  case cbBit7B => exact ⟨_, .bit 7 (.reg .b)⟩
  case cbBit7C => exact ⟨_, .bit 7 (.reg .c)⟩
  case cbBit7D => exact ⟨_, .bit 7 (.reg .d)⟩
  case cbBit7E => exact ⟨_, .bit 7 (.reg .e)⟩
  case cbBit7H => exact ⟨_, .bit 7 (.reg .h)⟩
  case cbBit7L => exact ⟨_, .bit 7 (.reg .l)⟩
  case cbBit7MemHl => exact ⟨_, .bit 7 .memHl⟩
  case cbBit7A => exact ⟨_, .bit 7 (.reg .a)⟩
  case cbRes0B => exact ⟨_, .res 0 (.reg .b)⟩
  case cbRes0C => exact ⟨_, .res 0 (.reg .c)⟩
  case cbRes0D => exact ⟨_, .res 0 (.reg .d)⟩
  case cbRes0E => exact ⟨_, .res 0 (.reg .e)⟩
  case cbRes0H => exact ⟨_, .res 0 (.reg .h)⟩
  case cbRes0L => exact ⟨_, .res 0 (.reg .l)⟩
  case cbRes0MemHl => exact ⟨_, .res 0 .memHl⟩
  case cbRes0A => exact ⟨_, .res 0 (.reg .a)⟩
  case cbRes1B => exact ⟨_, .res 1 (.reg .b)⟩
  case cbRes1C => exact ⟨_, .res 1 (.reg .c)⟩
  case cbRes1D => exact ⟨_, .res 1 (.reg .d)⟩
  case cbRes1E => exact ⟨_, .res 1 (.reg .e)⟩
  case cbRes1H => exact ⟨_, .res 1 (.reg .h)⟩
  case cbRes1L => exact ⟨_, .res 1 (.reg .l)⟩
  case cbRes1MemHl => exact ⟨_, .res 1 .memHl⟩
  case cbRes1A => exact ⟨_, .res 1 (.reg .a)⟩
  case cbRes2B => exact ⟨_, .res 2 (.reg .b)⟩
  case cbRes2C => exact ⟨_, .res 2 (.reg .c)⟩
  case cbRes2D => exact ⟨_, .res 2 (.reg .d)⟩
  case cbRes2E => exact ⟨_, .res 2 (.reg .e)⟩
  case cbRes2H => exact ⟨_, .res 2 (.reg .h)⟩
  case cbRes2L => exact ⟨_, .res 2 (.reg .l)⟩
  case cbRes2MemHl => exact ⟨_, .res 2 .memHl⟩
  case cbRes2A => exact ⟨_, .res 2 (.reg .a)⟩
  case cbRes3B => exact ⟨_, .res 3 (.reg .b)⟩
  case cbRes3C => exact ⟨_, .res 3 (.reg .c)⟩
  case cbRes3D => exact ⟨_, .res 3 (.reg .d)⟩
  case cbRes3E => exact ⟨_, .res 3 (.reg .e)⟩
  case cbRes3H => exact ⟨_, .res 3 (.reg .h)⟩
  case cbRes3L => exact ⟨_, .res 3 (.reg .l)⟩
  case cbRes3MemHl => exact ⟨_, .res 3 .memHl⟩
  case cbRes3A => exact ⟨_, .res 3 (.reg .a)⟩
  case cbRes4B => exact ⟨_, .res 4 (.reg .b)⟩
  case cbRes4C => exact ⟨_, .res 4 (.reg .c)⟩
  case cbRes4D => exact ⟨_, .res 4 (.reg .d)⟩
  case cbRes4E => exact ⟨_, .res 4 (.reg .e)⟩
  case cbRes4H => exact ⟨_, .res 4 (.reg .h)⟩
  case cbRes4L => exact ⟨_, .res 4 (.reg .l)⟩
  case cbRes4MemHl => exact ⟨_, .res 4 .memHl⟩
  case cbRes4A => exact ⟨_, .res 4 (.reg .a)⟩
  case cbRes5B => exact ⟨_, .res 5 (.reg .b)⟩
  case cbRes5C => exact ⟨_, .res 5 (.reg .c)⟩
  case cbRes5D => exact ⟨_, .res 5 (.reg .d)⟩
  case cbRes5E => exact ⟨_, .res 5 (.reg .e)⟩
  case cbRes5H => exact ⟨_, .res 5 (.reg .h)⟩
  case cbRes5L => exact ⟨_, .res 5 (.reg .l)⟩
  case cbRes5MemHl => exact ⟨_, .res 5 .memHl⟩
  case cbRes5A => exact ⟨_, .res 5 (.reg .a)⟩
  case cbRes6B => exact ⟨_, .res 6 (.reg .b)⟩
  case cbRes6C => exact ⟨_, .res 6 (.reg .c)⟩
  case cbRes6D => exact ⟨_, .res 6 (.reg .d)⟩
  case cbRes6E => exact ⟨_, .res 6 (.reg .e)⟩
  case cbRes6H => exact ⟨_, .res 6 (.reg .h)⟩
  case cbRes6L => exact ⟨_, .res 6 (.reg .l)⟩
  case cbRes6MemHl => exact ⟨_, .res 6 .memHl⟩
  case cbRes6A => exact ⟨_, .res 6 (.reg .a)⟩
  case cbRes7B => exact ⟨_, .res 7 (.reg .b)⟩
  case cbRes7C => exact ⟨_, .res 7 (.reg .c)⟩
  case cbRes7D => exact ⟨_, .res 7 (.reg .d)⟩
  case cbRes7E => exact ⟨_, .res 7 (.reg .e)⟩
  case cbRes7H => exact ⟨_, .res 7 (.reg .h)⟩
  case cbRes7L => exact ⟨_, .res 7 (.reg .l)⟩
  case cbRes7MemHl => exact ⟨_, .res 7 .memHl⟩
  case cbRes7A => exact ⟨_, .res 7 (.reg .a)⟩
  case cbSet0B => exact ⟨_, .set 0 (.reg .b)⟩
  case cbSet0C => exact ⟨_, .set 0 (.reg .c)⟩
  case cbSet0D => exact ⟨_, .set 0 (.reg .d)⟩
  case cbSet0E => exact ⟨_, .set 0 (.reg .e)⟩
  case cbSet0H => exact ⟨_, .set 0 (.reg .h)⟩
  case cbSet0L => exact ⟨_, .set 0 (.reg .l)⟩
  case cbSet0MemHl => exact ⟨_, .set 0 .memHl⟩
  case cbSet0A => exact ⟨_, .set 0 (.reg .a)⟩
  case cbSet1B => exact ⟨_, .set 1 (.reg .b)⟩
  case cbSet1C => exact ⟨_, .set 1 (.reg .c)⟩
  case cbSet1D => exact ⟨_, .set 1 (.reg .d)⟩
  case cbSet1E => exact ⟨_, .set 1 (.reg .e)⟩
  case cbSet1H => exact ⟨_, .set 1 (.reg .h)⟩
  case cbSet1L => exact ⟨_, .set 1 (.reg .l)⟩
  case cbSet1MemHl => exact ⟨_, .set 1 .memHl⟩
  case cbSet1A => exact ⟨_, .set 1 (.reg .a)⟩
  case cbSet2B => exact ⟨_, .set 2 (.reg .b)⟩
  case cbSet2C => exact ⟨_, .set 2 (.reg .c)⟩
  case cbSet2D => exact ⟨_, .set 2 (.reg .d)⟩
  case cbSet2E => exact ⟨_, .set 2 (.reg .e)⟩
  case cbSet2H => exact ⟨_, .set 2 (.reg .h)⟩
  case cbSet2L => exact ⟨_, .set 2 (.reg .l)⟩
  case cbSet2MemHl => exact ⟨_, .set 2 .memHl⟩
  case cbSet2A => exact ⟨_, .set 2 (.reg .a)⟩
  case cbSet3B => exact ⟨_, .set 3 (.reg .b)⟩
  case cbSet3C => exact ⟨_, .set 3 (.reg .c)⟩
  case cbSet3D => exact ⟨_, .set 3 (.reg .d)⟩
  case cbSet3E => exact ⟨_, .set 3 (.reg .e)⟩
  case cbSet3H => exact ⟨_, .set 3 (.reg .h)⟩
  case cbSet3L => exact ⟨_, .set 3 (.reg .l)⟩
  case cbSet3MemHl => exact ⟨_, .set 3 .memHl⟩
  case cbSet3A => exact ⟨_, .set 3 (.reg .a)⟩
  case cbSet4B => exact ⟨_, .set 4 (.reg .b)⟩
  case cbSet4C => exact ⟨_, .set 4 (.reg .c)⟩
  case cbSet4D => exact ⟨_, .set 4 (.reg .d)⟩
  case cbSet4E => exact ⟨_, .set 4 (.reg .e)⟩
  case cbSet4H => exact ⟨_, .set 4 (.reg .h)⟩
  case cbSet4L => exact ⟨_, .set 4 (.reg .l)⟩
  case cbSet4MemHl => exact ⟨_, .set 4 .memHl⟩
  case cbSet4A => exact ⟨_, .set 4 (.reg .a)⟩
  case cbSet5B => exact ⟨_, .set 5 (.reg .b)⟩
  case cbSet5C => exact ⟨_, .set 5 (.reg .c)⟩
  case cbSet5D => exact ⟨_, .set 5 (.reg .d)⟩
  case cbSet5E => exact ⟨_, .set 5 (.reg .e)⟩
  case cbSet5H => exact ⟨_, .set 5 (.reg .h)⟩
  case cbSet5L => exact ⟨_, .set 5 (.reg .l)⟩
  case cbSet5MemHl => exact ⟨_, .set 5 .memHl⟩
  case cbSet5A => exact ⟨_, .set 5 (.reg .a)⟩
  case cbSet6B => exact ⟨_, .set 6 (.reg .b)⟩
  case cbSet6C => exact ⟨_, .set 6 (.reg .c)⟩
  case cbSet6D => exact ⟨_, .set 6 (.reg .d)⟩
  case cbSet6E => exact ⟨_, .set 6 (.reg .e)⟩
  case cbSet6H => exact ⟨_, .set 6 (.reg .h)⟩
  case cbSet6L => exact ⟨_, .set 6 (.reg .l)⟩
  case cbSet6MemHl => exact ⟨_, .set 6 .memHl⟩
  case cbSet6A => exact ⟨_, .set 6 (.reg .a)⟩
  case cbSet7B => exact ⟨_, .set 7 (.reg .b)⟩
  case cbSet7C => exact ⟨_, .set 7 (.reg .c)⟩
  case cbSet7D => exact ⟨_, .set 7 (.reg .d)⟩
  case cbSet7E => exact ⟨_, .set 7 (.reg .e)⟩
  case cbSet7H => exact ⟨_, .set 7 (.reg .h)⟩
  case cbSet7L => exact ⟨_, .set 7 (.reg .l)⟩
  case cbSet7MemHl => exact ⟨_, .set 7 .memHl⟩
  case cbSet7A => exact ⟨_, .set 7 (.reg .a)⟩

/-- A statement about all instructions follows from its families. -/
theorem forall_instr_of_means {P : Instr → Prop} (h : ∀ i f, Means i f → P i) (i : Instr) : P i :=
  let ⟨f, hf⟩ := means_exists i
  h i f hf

/-- What an instruction answers in a state is the answer of its family's function. -/
theorem next_of_means {i : Instr} {f : State → State} {s t : State} (h : Means i f) (ht : exec i s = .next t) : t = f s := by
  rw [exec_of_means h s] at ht
  exact (Host.Outcome.next.inj ht).symm

end Sys2Proof.Machine
end

