-- ==== Sys2Proof/Laws/Instructions.lean ====
section
/-! SUPPORT. What one instruction can do, said once for all of them: its effect on the bus is at most two stores, it leaves the
parameters and the host's input alone, and its effect on the control state is one of six. -/

namespace Sys2Proof.Machine

/-- A list of stores, in order. -/
def Bus.storeAll (stores : List (Addr × Byte)) (b : Bus) : Bus := stores.foldl (fun b w => b.write w.1 w.2) b

@[simp] theorem Bus.storeAll_nil (b : Bus) : Bus.storeAll [] b = b := rfl

@[simp] theorem Bus.storeAll_cons (w : Addr × Byte) (ws : List (Addr × Byte)) (b : Bus) :
    Bus.storeAll (w :: ws) b = Bus.storeAll ws (b.write w.1 w.2) := rfl

/-- A property of the bus that every write keeps is kept by every list of stores. -/
theorem Bus.storeAll_induct {P : Bus → Prop} (h : ∀ b a v, P b → P (b.write a v)) (ws : List (Addr × Byte)) {b : Bus}
    (hb : P b) : P (Bus.storeAll ws b) := by
  induction ws generalizing b with
  | nil => exact hb
  | cons w ws ih => exact ih (h b w.1 w.2 hb)

/-- Zeroing the divider is what a write to DIV does (R112). -/
theorem Bus.write_div (b : Bus) (v : Byte) :
    b.write 0xFF04 v = { b with timer := { b.timer with divCounter := 0 } } := rfl

/-- The state `t` has the bus of `s` after at most two stores. -/
def StoresAtMostTwo (s t : State) : Prop := ∃ ws : List (Addr × Byte), ws.length ≤ 2 ∧ t.bus = Bus.storeAll ws s.bus

theorem storesNone {s t : State} (h : t.bus = s.bus) : StoresAtMostTwo s t := ⟨[], by simp, h⟩

theorem storesOne {s t : State} (a : Addr) (v : Byte) (h : t.bus = s.bus.write a v) : StoresAtMostTwo s t :=
  ⟨[(a, v)], by simp, h⟩

theorem storesTwice {s t : State} (a : Addr) (v : Byte) (c : Addr) (w : Byte)
    (h : t.bus = (s.bus.write a v).write c w) : StoresAtMostTwo s t :=
  ⟨[(a, v), (c, w)], by simp, h⟩

theorem writeOperand_stores (s u : State) (x : Operand8) (v : Byte) (f : Flags) (h : u.bus = s.bus) :
    StoresAtMostTwo s ((u.writeOperand x v).setFlags f) ∧ StoresAtMostTwo s (u.writeOperand x v) := by
  cases x with
  | reg r => cases r <;> exact ⟨storesNone h, storesNone h⟩
  | memHl => exact ⟨storesOne u.hl v (by rw [← h]; rfl), storesOne u.hl v (by rw [← h]; rfl)⟩

theorem cbPage_stores (op2 : Byte) (s : State) : StoresAtMostTwo s (cbPage op2 s) := by
  unfold cbPage
  split
  · exact (writeOperand_stores s (s.fetched 2) _ _ _ rfl).1
  · exact storesNone rfl
  · exact (writeOperand_stores s (s.fetched 2) _ _ s.flags rfl).2
  · exact (writeOperand_stores s (s.fetched 2) _ _ s.flags rfl).2

/-- The effect of every instruction on the bus: at most two stores (STOP's zeroed divider is a store to DIV). -/
theorem means_stores {i : Instr} {f : State → State} (h : Means i f) (s : State) : StoresAtMostTwo s (f s) := by
  cases h
  case ldRegReg x y => cases x <;> exact storesNone rfl
  case ldRegImm r n => cases r <;> exact storesNone rfl
  case ldRegMemHl r => cases r <;> exact storesNone rfl
  case ldMemHlReg r => exact storesOne _ _ rfl
  case ldMemHlN n => exact storesOne _ _ rfl
  case ldPointerA p => exact storesOne _ _ rfl
  case ldMemNnA nn => exact storesOne _ _ rfl
  case ldAHlStep m => cases m <;> exact storesNone rfl
  case ldHlStepA m => cases m <;> exact storesOne _ _ rfl
  case ldhMemCA => exact storesOne _ _ rfl
  case ldhMemNA n => exact storesOne _ _ rfl
  case ldPairImm r nn => cases r <;> exact storesNone rfl
  case ldMemNnSp nn => exact storesTwice _ _ _ _ rfl
  case push r => exact storesTwice _ _ _ _ rfl
  case pop r => cases r <;> exact storesNone rfl
  case inc x => exact (writeOperand_stores s (s.fetched 1) x _ _ rfl).1
  case dec x => exact (writeOperand_stores s (s.fetched 1) x _ _ rfl).1
  case incPair r => cases r <;> exact storesNone rfl
  case decPair r => cases r <;> exact storesNone rfl
  case shift op x => exact (writeOperand_stores s (s.fetched 2) x _ _ rfl).1
  case res b x => exact (writeOperand_stores s (s.fetched 2) x _ s.flags rfl).2
  case set b x => exact (writeOperand_stores s (s.fetched 2) x _ s.flags rfl).2
  case prefixCb => exact cbPage_stores _ s
  case jpIf cc nn => unfold jumpAbsIf; split <;> exact storesNone rfl
  case jrIf cc e => unfold jumpRelIf; split <;> exact storesNone rfl
  case callNn nn => exact storesTwice _ _ _ _ rfl
  case callIf cc nn =>
    unfold callAbsIf
    split
    · exact storesTwice _ _ _ _ rfl
    · exact storesNone rfl
  case retIf cc => unfold retIf; split <;> exact storesNone rfl
  case rst t => exact storesTwice _ _ _ _ rfl
  case halt => unfold haltCpu; dsimp only; split <;> exact storesNone rfl
  case stop n =>
    unfold stopCpu
    split
    · exact storesNone rfl
    · exact storesOne 0xFF04 0 rfl
  all_goals exact storesNone rfl

/-- What an instruction that began in `s` may leave in the control state and PC: the six cases of R15 to R19, R341 to R345. -/
inductive ControlEffect (s t : State) : Prop where
  | kept (ctl : t.ctl = { s.ctl with haltBugPending := false })
  | interrupts (ime : Bool) (delay : Fin 3) (ctl : t.ctl = { s.ctl with haltBugPending := false, ime := ime, eiDelay := delay })
  | halted (ctl : t.ctl = { s.ctl with haltBugPending := false, runState := .halted })
  | haltBug (enabled : s.params.haltBug = true) (ctl : t.ctl = { s.ctl with haltBugPending := true })
  | stopped (policy : s.params.stopPolicy = .lowPower)
      (ctl : t.ctl = { s.ctl with haltBugPending := false, runState := .stopped })
  | raised (kind : FatalKind) (op : Byte) (eq : t = s.raiseFatal kind s.pc op)

theorem writeOperand_ctl (u : State) (x : Operand8) (v : Byte) :
    (u.writeOperand x v).ctl = u.ctl ∧ (u.writeOperand x v).params = u.params ∧ (u.writeOperand x v).input = u.input := by
  cases x with
  | reg r => cases r <;> exact ⟨rfl, rfl, rfl⟩
  | memHl => exact ⟨rfl, rfl, rfl⟩

/-- Every instruction's effect on the control state. -/
theorem means_control {i : Instr} {f : State → State} (h : Means i f) (s : State) : ControlEffect s (f s) := by
  cases h
  case ldRegReg x y => cases x <;> exact .kept rfl
  case ldRegImm r n => cases r <;> exact .kept rfl
  case ldRegMemHl r => cases r <;> exact .kept rfl
  case ldAHlStep m => cases m <;> exact .kept rfl
  case ldHlStepA m => cases m <;> exact .kept rfl
  case ldPairImm r nn => cases r <;> exact .kept rfl
  case pop r => cases r <;> exact .kept rfl
  case inc x => exact .kept (writeOperand_ctl (s.fetched 1) x _).1
  case dec x => exact .kept (writeOperand_ctl (s.fetched 1) x _).1
  case incPair r => cases r <;> exact .kept rfl
  case decPair r => cases r <;> exact .kept rfl
  case shift op x => exact .kept (writeOperand_ctl (s.fetched 2) x _).1
  case res b x => exact .kept (writeOperand_ctl (s.fetched 2) x _).1
  case set b x => exact .kept (writeOperand_ctl (s.fetched 2) x _).1
  case prefixCb =>
    unfold cbPageAtPc cbPage
    split
    · exact .kept (writeOperand_ctl (s.fetched 2) _ _).1
    · exact .kept rfl
    · exact .kept (writeOperand_ctl (s.fetched 2) _ _).1
    · exact .kept (writeOperand_ctl (s.fetched 2) _ _).1
  case jpIf cc nn => unfold jumpAbsIf; split <;> exact .kept rfl
  case jrIf cc e => unfold jumpRelIf; split <;> exact .kept rfl
  case callIf cc nn => unfold callAbsIf; split <;> exact .kept rfl
  case retIf cc => unfold retIf; split <;> exact .kept rfl
  case reti => exact .interrupts true 0 rfl
  case di => exact .interrupts false 0 rfl
  case ei => exact .interrupts s.ctl.ime 2 rfl
  case halt =>
    unfold haltCpu
    dsimp only
    split
    · rename_i hb
      refine .haltBug ?_ rfl
      simp only [Bool.and_eq_true] at hb
      exact hb.1.1
    · exact .halted rfl
  case stop n =>
    unfold stopCpu
    split
    · exact .raised _ _ rfl
    · rename_i hp
      exact .stopped hp rfl
  case illegal op => exact .raised _ _ rfl
  all_goals exact .kept rfl

/-- No instruction changes the parameters or the host's input. -/
theorem means_params {i : Instr} {f : State → State} (h : Means i f) (s : State) :
    (f s).params = s.params ∧ (f s).input = s.input := by
  cases h
  case ldRegReg x y => cases x <;> exact ⟨rfl, rfl⟩
  case ldRegImm r n => cases r <;> exact ⟨rfl, rfl⟩
  case ldRegMemHl r => cases r <;> exact ⟨rfl, rfl⟩
  case ldAHlStep m => cases m <;> exact ⟨rfl, rfl⟩
  case ldHlStepA m => cases m <;> exact ⟨rfl, rfl⟩
  case ldPairImm r nn => cases r <;> exact ⟨rfl, rfl⟩
  case pop r => cases r <;> exact ⟨rfl, rfl⟩
  case inc x => exact (writeOperand_ctl (s.fetched 1) x _).2
  case dec x => exact (writeOperand_ctl (s.fetched 1) x _).2
  case incPair r => cases r <;> exact ⟨rfl, rfl⟩
  case decPair r => cases r <;> exact ⟨rfl, rfl⟩
  case shift op x => exact (writeOperand_ctl (s.fetched 2) x _).2
  case res b x => exact (writeOperand_ctl (s.fetched 2) x _).2
  case set b x => exact (writeOperand_ctl (s.fetched 2) x _).2
  case prefixCb =>
    unfold cbPageAtPc cbPage
    split
    · exact (writeOperand_ctl (s.fetched 2) _ _).2
    · exact ⟨rfl, rfl⟩
    · exact (writeOperand_ctl (s.fetched 2) _ _).2
    · exact (writeOperand_ctl (s.fetched 2) _ _).2
  case jpIf cc nn => unfold jumpAbsIf; split <;> exact ⟨rfl, rfl⟩
  case jrIf cc e => unfold jumpRelIf; split <;> exact ⟨rfl, rfl⟩
  case callIf cc nn => unfold callAbsIf; split <;> exact ⟨rfl, rfl⟩
  case retIf cc => unfold retIf; split <;> exact ⟨rfl, rfl⟩
  case halt => unfold haltCpu; dsimp only; split <;> exact ⟨rfl, rfl⟩
  case stop n => unfold stopCpu; split <;> exact ⟨rfl, rfl⟩
  all_goals exact ⟨rfl, rfl⟩

/-- Choosing between two states commutes with the host's input. -/
theorem ite_input (c : Bool) (t u t' u' : State) (x : List (List HostEvent)) (ht : t' = { t with input := x })
    (hu : u' = { u with input := x }) :
    (if c = true then t' else u') = { (if c = true then t else u) with input := x } := by
  subst ht hu
  cases c <;> rfl

/-- Writing an operand commutes with the host's input. -/
theorem writeOperand_input (u : State) (y : Operand8) (v : Byte) (f : Flags) (x : List (List HostEvent)) :
    ({ u with input := x }.writeOperand y v).setFlags f = { (u.writeOperand y v).setFlags f with input := x } ∧
      { u with input := x }.writeOperand y v = { u.writeOperand y v with input := x } := by
  rcases y with (r | _)
  · cases r <;> exact ⟨rfl, rfl⟩
  · exact ⟨rfl, rfl⟩

/-- The second table commutes with the host's input. -/
theorem cbPage_input (op2 : Byte) (s : State) (x : List (List HostEvent)) :
    cbPage op2 { s with input := x } = { cbPage op2 s with input := x } := by
  unfold cbPage
  split
  · exact (writeOperand_input (s.fetched 2) _ _ _ x).1
  · rfl
  · exact (writeOperand_input (s.fetched 2) _ _ s.flags x).2
  · exact (writeOperand_input (s.fetched 2) _ _ s.flags x).2

/-- No instruction depends on the host's input, which it leaves alone. -/
theorem means_input {i : Instr} {f : State → State} (h : Means i f) (s : State) (x : List (List HostEvent)) :
    f { s with input := x } = { f s with input := x } := by
  cases h
  case ldRegReg x y => cases x <;> rfl
  case ldRegImm r n => cases r <;> rfl
  case ldRegMemHl r => cases r <;> rfl
  case ldAHlStep m => cases m <;> rfl
  case ldHlStepA m => cases m <;> rfl
  case ldPairImm r nn => cases r <;> rfl
  case pop r => cases r <;> rfl
  case inc y => exact (writeOperand_input (s.fetched 1) y _ _ x).1
  case dec y => exact (writeOperand_input (s.fetched 1) y _ _ x).1
  case incPair r => cases r <;> rfl
  case decPair r => cases r <;> rfl
  case shift op y => exact (writeOperand_input (s.fetched 2) y _ _ x).1
  case res b y => exact (writeOperand_input (s.fetched 2) y _ s.flags x).2
  case set b y => exact (writeOperand_input (s.fetched 2) y _ s.flags x).2
  case prefixCb => exact cbPage_input (s.operandByte 0) s x
  case jpIf cc nn => exact ite_input (s.condition cc) _ _ _ _ x rfl rfl
  case jrIf cc e => exact ite_input (s.condition cc) _ _ _ _ x rfl rfl
  case callIf cc nn => exact ite_input (s.condition cc) _ _ _ _ x rfl rfl
  case retIf cc => exact ite_input (s.condition cc) _ _ _ _ x rfl rfl
  case halt => exact ite_input (s.params.haltBug && !s.ctl.ime && s.bus.pending != 0) _ _ _ _ x rfl rfl
  case stop n => unfold stopCpu; dsimp only; cases s.params.stopPolicy <;> rfl
  all_goals rfl
end Sys2Proof.Machine
end

