-- ==== Sys2Proof/Laws/Loader.lean ====
section
/-! SUPPORT. What a load answers, said once: the one state it can be, and when it fails. -/

namespace Sys2Proof.Machine

/-- A byte of an image that is long enough does not depend on what lies beyond its end. -/
theorem headerByte_eq {image : List Byte} (h : 0x8000 ≤ image.length) {i : Nat} (hi : i < 0x8000) (v w : Byte) :
    image.getD i v = image.getD i w := by
  rw [List.getD_eq_getElem _ _ (by omega), List.getD_eq_getElem _ _ (by omega)]

/-- What a load that succeeds answers (R80, R81, R500, R501). -/
theorem load_ok {image cartRam : List Byte} {ram : RamInit} {params : Params} {s : State}
    (h : State.load image cartRam ram params = .ok s) :
    0x8000 ≤ image.length ∧ ∃ (mapper : Mapper) (banks size : Nat),
      mapperOfType (image.getD 0x0147 0) = some mapper ∧ romBanksOfCode (image.getD 0x0148 0) = some banks ∧
      ramSizeOfCode (image.getD 0x0149 0) = some size ∧
      let ramSize := if typeHasRam (image.getD 0x0147 0) then size else 0
      s = { cpu := Cpu.reset, ctl := Control.reset,
            bus := Bus.reset
              { rom := Memory.ofBytes image, romLength := image.length, romBanks := banks, ramSize := ramSize,
                ram := Memory.ofBytes (cartRam.take ramSize), ramEnable := false, mapper := mapper }
              (Memory.ofBytes (ram.vram.take 8192)) (Memory.ofBytes (ram.wram.take 8192))
              (Memory.ofBytes (ram.oam.take 160)) (Memory.ofBytes (ram.hram.take 127)),
            params := params, input := [] } := by
  unfold State.load loadCart at h
  by_cases hl : image.length < 0x8000
  · simp [hl] at h
  have hlen : 0x8000 ≤ image.length := by omega
  simp only [if_neg hl, headerByte_eq hlen (by decide : 0x0147 < 0x8000) fillByte 0,
    headerByte_eq hlen (by decide : 0x0148 < 0x8000) fillByte 0,
    headerByte_eq hlen (by decide : 0x0149 < 0x8000) fillByte 0] at h
  refine ⟨hlen, ?_⟩
  cases hm : mapperOfType (image.getD 0x0147 0) <;> simp only [hm] at h <;> [contradiction; skip]
  cases hb : romBanksOfCode (image.getD 0x0148 0) <;> simp only [hb] at h <;> [contradiction; skip]
  cases hr : ramSizeOfCode (image.getD 0x0149 0) <;> simp only [hr] at h <;> [contradiction; skip]
  exact ⟨_, _, _, rfl, rfl, rfl, (Except.ok.inj h).symm⟩

/-- A load fails on the first of the four checks that fails, in the order of R81. -/
theorem load_error {image cartRam : List Byte} {ram : RamInit} {params : Params} {e : LoadFailure}
    (h : State.load image cartRam ram params = .error e) :
    e = .romTooSmall ∧ image.length < 0x8000 ∨
    0x8000 ≤ image.length ∧
      (e = .unsupportedMapper ∧ mapperOfType (image.getD 0x0147 0) = none ∨
       e = .badRomSizeCode ∧ romBanksOfCode (image.getD 0x0148 0) = none ∨
       e = .badRamSizeCode ∧ ramSizeOfCode (image.getD 0x0149 0) = none) := by
  unfold State.load loadCart at h
  by_cases hl : image.length < 0x8000
  · rw [if_pos hl] at h
    exact .inl ⟨(Except.error.inj h).symm, hl⟩
  have hlen : 0x8000 ≤ image.length := by omega
  simp only [if_neg hl, headerByte_eq hlen (by decide : 0x0147 < 0x8000) fillByte 0,
    headerByte_eq hlen (by decide : 0x0148 < 0x8000) fillByte 0,
    headerByte_eq hlen (by decide : 0x0149 < 0x8000) fillByte 0] at h
  refine .inr ⟨hlen, ?_⟩
  cases hm : mapperOfType (image.getD 0x0147 0) <;> simp only [hm] at h
  · exact .inl ⟨(Except.error.inj h).symm, rfl⟩
  cases hb : romBanksOfCode (image.getD 0x0148 0) <;> simp only [hb] at h
  · exact .inr (.inl ⟨(Except.error.inj h).symm, rfl⟩)
  cases hr : ramSizeOfCode (image.getD 0x0149 0) <;> simp only [hr] at h
  · exact .inr (.inr ⟨(Except.error.inj h).symm, rfl⟩)
  · cases h

/-- A memory made from the first `size` bytes of a list is in canonical form and inside its size. -/
theorem ofBytes_take_ok (bytes : List Byte) (size : Nat) : (Memory.ofBytes (bytes.take size)).ok size :=
  ⟨(Memory.ofBytes_ok _).1, fun p hp => Nat.lt_of_lt_of_le ((Memory.ofBytes_ok _).2 p hp) (List.length_take_le _ _)⟩

/-- It reads as the list, and as 0x00 where the list has ended. -/
theorem read_ofBytes_take (bytes : List Byte) {size i : Nat} (hi : i < size) :
    (Memory.ofBytes (bytes.take size)).read i = bytes.getD i 0 := by
  have h := Memory.read_ofBytesFrom (bytes.take size) 0 i
  rw [Nat.zero_add] at h
  rw [Memory.ofBytes, h, List.getD_eq_getElem?_getD, List.getD_eq_getElem?_getD, List.getElem?_take_of_lt hi]
  rfl

end Sys2Proof.Machine
end

