-- ==== Sys2Proof/Laws/Step.lean ====
section
/-! SUPPORT. What a step can do, said once: the five ways it completes, and what it leaves of each part of the state, so that
an invariant of the step is shown without unfolding it. -/

namespace Sys2Proof.Machine

/-- The state in which the instruction of a step executes: after the host's events and the wake from HALT (R440, R441). -/
def State.atFetch (s : State) : State := (hostPhase s).wake

/-- The five ways a step completes (R440, R441). -/
inductive StepEffect (s t : State) : Prop where
  | dead (fatal : s.ctl.runState = .fatal) (eq : t = s)
  | stopped (run : s.ctl.runState ≠ .fatal) (stop : (hostPhase s).ctl.runState = .stopped) (eq : t = hostPhase s)
  | dispatched (run : s.atFetch.ctl.runState = .running ∨ s.atFetch.ctl.runState = .halted)
      (deliverable : s.atFetch.dispatches = true) (eq : t = s.atFetch.dispatchInterrupt.advance 20)
  | idle (halted : s.atFetch.ctl.runState = .halted) (quiet : s.atFetch.dispatches = false)
      (eq : t = s.atFetch.advance 4)
  | executed (f : State → State) (run : s.atFetch.ctl.runState = .running) (quiet : s.atFetch.dispatches = false)
      (means : Means s.atFetch.fetchInstr f)
      (eq : t = (f s.atFetch).afterExecute (instrCycles s.atFetch.fetchInstr s.atFetch))

theorem wake_runState (s : State) : s.wake.ctl.runState = s.ctl.runState ∨
    s.ctl.runState = .halted ∧ s.wake.ctl.runState = .running := by
  unfold State.wake
  split
  · rename_i h
    exact .inr ⟨h.1, rfl⟩
  · exact .inl rfl

/-- The wake changes the run state alone. -/
theorem wake_effect (s : State) : s.wake = { s with ctl := { s.ctl with runState := s.wake.ctl.runState } } := by
  unfold State.wake
  split <;> rfl

/-- Every step completes in one of the five ways. -/
theorem step_effect {s t : State} (h : step s = .next t) : StepEffect s t := by
  unfold step startStep at h
  by_cases hf : s.ctl.runState = .fatal
  · rw [if_pos hf] at h
    exact .dead hf (Host.Outcome.next.inj h).symm
  rw [if_neg hf] at h
  dsimp only at h
  by_cases hs : (hostPhase s).ctl.runState = .stopped
  · rw [if_pos hs] at h
    exact .stopped hf hs (Host.Outcome.next.inj h).symm
  rw [if_neg hs] at h
  have hnf : (hostPhase s).ctl.runState ≠ .fatal := by
    obtain ⟨_, _, r, heq, hr⟩ := hostPhase_effect s
    rw [heq]
    dsimp only
    rcases hr with rfl | ⟨-, rfl⟩
    · exact hf
    · simp
  have hrun : s.atFetch.ctl.runState = .running ∨ s.atFetch.ctl.runState = .halted := by
    rcases wake_runState (hostPhase s) with h1 | ⟨-, h1⟩
    · cases hr : (hostPhase s).ctl.runState
      · exact .inl (h1.trans hr)
      · exact .inr (h1.trans hr)
      · exact absurd hr hs
      · exact absurd hr hnf
    · exact .inl h1
  by_cases hd : s.atFetch.dispatches = true
  · rw [if_pos (show (hostPhase s).wake.dispatches = true from hd)] at h
    exact .dispatched hrun hd (Host.Outcome.next.inj h).symm
  rw [if_neg (show ¬ (hostPhase s).wake.dispatches = true from hd)] at h
  have hq : s.atFetch.dispatches = false := by simpa using hd
  by_cases hh : s.atFetch.ctl.runState = .halted
  · rw [if_pos (show (hostPhase s).wake.ctl.runState = .halted from hh)] at h
    exact .idle hh hq (Host.Outcome.next.inj h).symm
  rw [if_neg (show ¬ (hostPhase s).wake.ctl.runState = .halted from hh)] at h
  obtain ⟨f, hm⟩ := means_exists s.atFetch.fetchInstr
  refine .executed f (hrun.resolve_right hh) hq hm ?_
  have he := exec_of_means hm s.atFetch
  change completeStep s.atFetch.fetchInstr s.atFetch (exec s.atFetch.fetchInstr s.atFetch) = .next t at h
  rw [he] at h
  exact (Host.Outcome.next.inj h).symm

/-- A state about to execute runs the instruction at PC. -/
theorem step_of_aboutToExecute {s : State} (h : AboutToExecute s) {t : State} (ht : exec s.fetchInstr s = .next t) :
    step s = .next (t.afterExecute (instrCycles s.fetchInstr s)) := by
  obtain ⟨h1, h2, h3⟩ := h
  have e1 : hostPhase s = s := by unfold hostPhase; rw [h2]
  have e2 : s.wake = s := by unfold State.wake; rw [h1]; simp
  have e3 : startStep s = .execute s := by unfold startStep; simp [h1, e1, e2, h3]
  unfold step
  rw [e3]
  dsimp only
  rw [ht]
  rfl

/-- The bus after what follows an instruction: as it was, or advanced. -/
theorem afterExecute_bus (s : State) (n : Nat) :
    (s.afterExecute n).bus = s.bus ∨ (s.afterExecute n).bus = advanceDevices n s.bus := by
  unfold State.afterExecute
  split
  · exact .inl rfl
  · have h : s.eiBookkeeping.bus = s.bus := by unfold State.eiBookkeeping; split <;> rfl
    dsimp only
    split
    · exact .inl h
    · exact .inr (by show advanceDevices n s.eiBookkeeping.bus = _; rw [h])

/-- A property of the bus that every store, every advance of the devices and every change of IF and the buttons keeps is
kept by every step. -/
theorem step_bus_induct {P : Bus → Prop} (store : ∀ b a v, P b → P (b.write a v))
    (advance : ∀ n b, P b → P (advanceDevices n b))
    (latch : ∀ b f m, P b → P { b with intFlag := f, joypad := { b.joypad with buttons := m } })
    {s t : State} (h : step s = .next t) (hs : P s.bus) : P t.bus := by
  have hh : P (hostPhase s).bus := by
    obtain ⟨m, f, r, heq, -⟩ := hostPhase_effect s
    rw [heq]
    exact latch _ _ _ hs
  have ha : P s.atFetch.bus := by
    unfold State.atFetch
    rw [wake_effect]
    exact hh
  rcases step_effect h with ⟨-, rfl⟩ | ⟨-, -, rfl⟩ | ⟨-, -, rfl⟩ | ⟨-, -, rfl⟩ | ⟨f, -, -, hm, rfl⟩
  · exact hs
  · exact hh
  · refine advance 20 _ ?_
    exact store _ _ _ (store _ _ _ (latch _ _ s.atFetch.bus.joypad.buttons ha))
  · exact advance 4 _ ha
  · have hf : P (f s.atFetch).bus := by
      obtain ⟨ws, -, heq⟩ := means_stores hm s.atFetch
      rw [heq]
      exact Bus.storeAll_induct store ws ha
    rcases afterExecute_bus (f s.atFetch) (instrCycles s.atFetch.fetchInstr s.atFetch) with heq | heq
    · rw [heq]; exact hf
    · rw [heq]; exact advance _ _ hf

end Sys2Proof.Machine
end

