-- ==== Sys2Proof/Tests/Slice0.lean ====
section
/-! SUPPORT. Tests of the model against the spec's own vectors (95_test_vectors.md) and encodings (30_encoding.md), the checks of
WellFormed, and, for every obligation with hypotheses, a state and operands that meet them. -/

set_option Elab.async false

namespace Sys2Proof.Tests

open Sys2Proof.Machine

/-! ### Well-formedness -/

/-- The prefix alone is no instruction of memory bytes (R141): the one check of `WellFormed` refuses it. -/
theorem test_wellFormed_refuses_prefixCb : ¬ WellFormed .prefixCb := by decide

theorem test_wellFormed_accepts : WellFormed .nop ∧ WellFormed (.ldBcNn 0xFFFF) ∧ WellFormed .cbSet7A := by decide

/-- A list that ends inside an instruction is refused by name (R140). -/
theorem test_decode_truncated : decode [] = .error .truncated ∧ decode [0x01, 0x34] = .error .truncated := ⟨rfl, rfl⟩

/-! ### Words written out from the encodings of 30_encoding.md and the instructions' own entries, one or more a family -/

theorem test_word_ld_b_c : decode [0b01000001] = .ok (.ldBC, []) := rfl
theorem test_word_ld_a_n : decode [0b00111110, 0b01000010] = .ok (.ldAN 0x42, []) := rfl
theorem test_word_ld_hl_d : decode [0b01110010] = .ok (.ldMemHlD, []) := rfl
theorem test_word_ld_a_hlDec : decode [0b00111010] = .ok (.ldAMemHlDec, []) := rfl
theorem test_word_ldh_a_n : decode [0b11110000, 0b01000100] = .ok (.ldhAMemN 0x44, []) := rfl
theorem test_word_ld_sp_nn : decode [0b00110001, 0x34, 0xD2] = .ok (.ldSpNn 0xD234, []) := rfl
theorem test_word_push_de : decode [0b11010101] = .ok (.pushDe, []) := rfl
theorem test_word_pop_af : decode [0b11110001] = .ok (.popAf, []) := rfl
theorem test_word_adc_a_e : decode [0b10001011] = .ok (.adcAE, []) := rfl
theorem test_word_cp_n : decode [0b11111110, 0x3C] = .ok (.cpAN 0x3C, []) := rfl
theorem test_word_dec_hl_byte : decode [0b00110101] = .ok (.decMemHl, []) := rfl
theorem test_word_add_hl_sp : decode [0b00111001] = .ok (.addHlSp, []) := rfl
theorem test_word_dec_de : decode [0b00011011] = .ok (.decDe, []) := rfl
theorem test_word_daa : decode [0b00100111] = .ok (.daa, []) := rfl
theorem test_word_bit_4_l : decode [0b11001011, 0b01100101] = .ok (.cbBit4L, []) := rfl
theorem test_word_swap_hl : decode [0b11001011, 0b00110110] = .ok (.cbSwapMemHl, []) := rfl
theorem test_word_jr_nc : decode [0b00110000, 0xFE] = .ok (.jrNcE 0xFE, []) := rfl
theorem test_word_jp_c : decode [0b11011010, 0x34, 0x12] = .ok (.jpCNn 0x1234, []) := rfl
theorem test_word_call_z : decode [0b11001100, 0x34, 0x12] = .ok (.callZNn 0x1234, []) := rfl
theorem test_word_reti : decode [0b11011001] = .ok (.reti, []) := rfl
theorem test_word_rst_28 : decode [0b11101111] = .ok (.rst28, []) := rfl
theorem test_word_halt : decode [0b01110110] = .ok (.halt, []) := rfl
theorem test_word_stop : decode [0b00010000, 0x00] = .ok (.stop 0x00, []) := rfl
theorem test_word_illegal_ed : decode [0b11101101] = .ok (.illegalED, []) := rfl

/-! ### One step from a small state -/

/-- The flags of a byte F. -/
abbrev flagsOf (v : Byte) : Flags := Flags.ofByte v

/-- Store bytes from an address on. -/
def storeAt (s : State) : Addr → List Byte → State
  | _, [] => s
  | a, v :: vs => storeAt (s.write a v) (a + 1) vs

/-- The reset state with no interrupt requested (the start of the spec's vectors), a given CPU, and bytes stored at PC. -/
def machine (cpu : Cpu) (code : List Byte) : State :=
  storeAt { State.reset with cpu := cpu, bus := { State.reset.bus with intFlag := 0 } } cpu.pc code

/-- The state after one step. -/
def after (s : State) : State :=
  match step s with
  | .next t => t
  | .fault _ | .refused _ => s

/-- One row of the spec's vectors: the code, its cycles, bytes stored before, the CPU before, the CPU after, bytes after. -/
structure StepCase where
  code : List Byte
  cycles : Nat
  stored : List (Addr × Byte)
  before : Cpu
  cpuAfter : Cpu → Cpu
  bytesAfter : List (Addr × Byte)

/-- Whether one step gives what the row says. -/
def StepCase.passes (r : StepCase) : Bool :=
  let s := r.stored.foldl (fun s p => s.write p.1 p.2) (machine r.before r.code)
  let t := after s
  decide (t.cpu = r.cpuAfter r.before) && r.bytesAfter.all (fun p => t.read p.1 == p.2) &&
    decide (stepReport s = .cycles r.cycles)

/-! ### 8-bit loads (40_load8.md) -/

/-- V-L8-1. -/
theorem test_ld_b_c :
    (StepCase.mk [0x41] 4 []
      { Cpu.reset with pc := 0xC000, b := 0x11, c := 0x22 }
      (fun cpu => { cpu with flags := flagsOf 0xB0, b := 0x22, pc := 0xC001 }) []).passes = true := by decide +kernel

/-- V-L8-2. -/
theorem test_ld_a_memHl :
    (StepCase.mk [0x7E] 8 [(0xC100, 0x5A)]
      { Cpu.reset with pc := 0xC000, h := 0xC1, l := 0x00 }
      (fun cpu => { cpu with a := 0x5A, flags := flagsOf 0xB0, pc := 0xC001 }) []).passes = true := by decide +kernel

/-- V-L8-3. -/
theorem test_ld_memHl_n :
    (StepCase.mk [0x36, 0x99] 12 []
      { Cpu.reset with pc := 0xC000, h := 0xC1, l := 0x00 }
      (fun cpu => { cpu with flags := flagsOf 0xB0, pc := 0xC002 }) [(0xC100, 0x99)]).passes = true := by decide +kernel

/-- V-L8-4. -/
theorem test_ld_a_memBc :
    (StepCase.mk [0x0A] 8 [(0xC102, 0x77)]
      { Cpu.reset with pc := 0xC000, b := 0xC1, c := 0x02 }
      (fun cpu => { cpu with a := 0x77, flags := flagsOf 0xB0, pc := 0xC001 }) []).passes = true := by decide +kernel

/-- V-L8-5. -/
theorem test_ld_memDe_a :
    (StepCase.mk [0x12] 8 []
      { Cpu.reset with pc := 0xC000, a := 0x3C, d := 0xC1, e := 0x03 }
      (fun cpu => { cpu with flags := flagsOf 0xB0, pc := 0xC001 }) [(0xC103, 0x3C)]).passes = true := by decide +kernel

/-- V-L8-6. -/
theorem test_ld_a_memNn_low_byte_first :
    (StepCase.mk [0xFA, 0x34, 0xC1] 16 [(0xC134, 0xAB)]
      { Cpu.reset with pc := 0xC000 }
      (fun cpu => { cpu with a := 0xAB, flags := flagsOf 0xB0, pc := 0xC003 }) []).passes = true := by decide +kernel

/-- V-L8-7. -/
theorem test_ld_memNn_a_through_echo :
    (StepCase.mk [0xEA, 0x10, 0xE0] 16 []
      { Cpu.reset with pc := 0xC000, a := 0x66 }
      (fun cpu => { cpu with flags := flagsOf 0xB0, pc := 0xC003 }) [(0xC010, 0x66), (0xE010, 0x66)]).passes = true := by decide +kernel

/-- V-L8-8. -/
theorem test_ld_a_memHlInc_wraps :
    (StepCase.mk [0x2A] 8 [(0xFFFF, 0x15)]
      { Cpu.reset with pc := 0xC000, h := 0xFF, l := 0xFF }
      (fun cpu => { cpu with a := 0x15, flags := flagsOf 0xB0, h := 0x00, l := 0x00, pc := 0xC001 }) []).passes = true := by decide +kernel

/-- V-L8-9. -/
theorem test_ld_memHlDec_a_to_rom :
    (StepCase.mk [0x32] 8 []
      { Cpu.reset with pc := 0xC000, a := 0x77, h := 0x00, l := 0x00 }
      (fun cpu => { cpu with flags := flagsOf 0xB0, h := 0xFF, l := 0xFF, pc := 0xC001 }) [(0x0000, 0x00)]).passes = true := by decide +kernel

/-- V-L8-10. -/
theorem test_ld_memHlInc_a :
    (StepCase.mk [0x22] 8 []
      { Cpu.reset with pc := 0xC000, a := 0x77, h := 0xDF, l := 0xFF }
      (fun cpu => { cpu with flags := flagsOf 0xB0, h := 0xE0, l := 0x00, pc := 0xC001 }) [(0xDFFF, 0x77), (0xFDFF, 0x00)]).passes = true := by decide +kernel

/-- V-L8-11. -/
theorem test_ldh_memN_a :
    (StepCase.mk [0xE0, 0x80] 12 []
      { Cpu.reset with pc := 0xC000, a := 0x12 }
      (fun cpu => { cpu with flags := flagsOf 0xB0, pc := 0xC002 }) [(0xFF80, 0x12)]).passes = true := by decide +kernel

/-- V-L8-12. -/
theorem test_ldh_a_memN_reads_p1 :
    (StepCase.mk [0xF0, 0x00] 12 []
      { Cpu.reset with pc := 0xC000, a := 0x00 }
      (fun cpu => { cpu with a := 0xCF, flags := flagsOf 0xB0, pc := 0xC002 }) []).passes = true := by decide +kernel

/-- V-L8-13. -/
theorem test_ldh_a_memC :
    (StepCase.mk [0xF2] 8 []
      { Cpu.reset with pc := 0xC000, a := 0x00, c := 0x0F }
      (fun cpu => { cpu with a := 0xE0, flags := flagsOf 0xB0, pc := 0xC001 }) []).passes = true := by decide +kernel

/-- V-L8-14. -/
theorem test_ldh_memC_a :
    (StepCase.mk [0xE2] 8 []
      { Cpu.reset with pc := 0xC000, a := 0xFF, c := 0x0F }
      (fun cpu => { cpu with flags := flagsOf 0xB0, pc := 0xC001 }) [(0xFF0F, 0xFF)]).passes = true := by decide +kernel

/-- V-L8-16. -/
theorem test_ld_memHl_b_to_rom :
    (StepCase.mk [0x70] 8 []
      { Cpu.reset with pc := 0xC000, b := 0x55, h := 0x20, l := 0x00 }
      (fun cpu => { cpu with flags := flagsOf 0xB0, pc := 0xC001 }) [(0x2000, 0x00)]).passes = true := by decide +kernel

/-- V-L8-17. -/
theorem test_ld_a_n :
    (StepCase.mk [0x3E, 0xFF] 8 []
      { Cpu.reset with pc := 0xC000, a := 0x00 }
      (fun cpu => { cpu with a := 0xFF, flags := flagsOf 0xB0, pc := 0xC002 }) []).passes = true := by decide +kernel

/-! ### 16-bit loads (41_load16.md) -/

/-- V-L16-1. -/
theorem test_ld_bc_nn :
    (StepCase.mk [0x01, 0x34, 0x12] 12 []
      { Cpu.reset with pc := 0xC000 }
      (fun cpu => { cpu with flags := flagsOf 0xB0, b := 0x12, c := 0x34, pc := 0xC003 }) []).passes = true := by decide +kernel

/-- V-L16-3. -/
theorem test_ld_memNn_sp :
    (StepCase.mk [0x08, 0x00, 0xC1] 20 []
      { Cpu.reset with pc := 0xC000, sp := 0xFFF8 }
      (fun cpu => { cpu with flags := flagsOf 0xB0, pc := 0xC003 }) [(0xC100, 0xF8), (0xC101, 0xFF)]).passes = true := by decide +kernel

/-- V-L16-4. -/
theorem test_ld_sp_hl :
    (StepCase.mk [0xF9] 8 []
      { Cpu.reset with pc := 0xC000, h := 0xD1, l := 0x23 }
      (fun cpu => { cpu with flags := flagsOf 0xB0, sp := 0xD123, pc := 0xC001 }) []).passes = true := by decide +kernel

/-- V-L16-8. -/
theorem test_ld_hl_spE_negative :
    (StepCase.mk [0xF8, 0xFF] 12 []
      { Cpu.reset with pc := 0xC000, sp := 0x0001 }
      (fun cpu => { cpu with flags := flagsOf 0x30, h := 0x00, l := 0x00, pc := 0xC002 }) []).passes = true := by decide +kernel

/-- V-L16-11. -/
theorem test_push_af :
    (StepCase.mk [0xF5] 16 []
      { Cpu.reset with pc := 0xC000, a := 0xAA, flags := flagsOf 0x50, sp := 0xD000 }
      (fun cpu => { cpu with flags := flagsOf 0x50, sp := 0xCFFE, pc := 0xC001 }) [(0xCFFF, 0xAA), (0xCFFE, 0x50)]).passes = true := by decide +kernel

/-- V-L16-12. -/
theorem test_pop_af_drops_low_bits :
    (StepCase.mk [0xF1] 12 [(0xD000, 0xFF), (0xD001, 0x12)]
      { Cpu.reset with pc := 0xC000, sp := 0xD000 }
      (fun cpu => { cpu with a := 0x12, flags := flagsOf 0xF0, sp := 0xD002, pc := 0xC001 }) []).passes = true := by decide +kernel

/-- V-L16-14. -/
theorem test_push_wraps :
    (StepCase.mk [0xC5] 16 []
      { Cpu.reset with pc := 0xC000, b := 0x12, c := 0x15, sp := 0x0001 }
      (fun cpu => { cpu with flags := flagsOf 0xB0, sp := 0xFFFF, pc := 0xC001 }) [(0x0000, 0x00), (0xFFFF, 0x15)]).passes = true := by decide +kernel

/-- V-L16-15. -/
theorem test_pop_wraps :
    (StepCase.mk [0xE1] 12 [(0xFFFF, 0x1F)]
      { Cpu.reset with pc := 0xC000, sp := 0xFFFF }
      (fun cpu => { cpu with flags := flagsOf 0xB0, h := 0x00, l := 0x1F, sp := 0x0001, pc := 0xC001 }) []).passes = true := by decide +kernel

/-! ### 8-bit arithmetic (42_alu8.md) -/

/-- V-A8-2. -/
theorem test_add_half_carry :
    (StepCase.mk [0x80] 4 []
      { Cpu.reset with pc := 0xC000, a := 0x0F, b := 0x01 }
      (fun cpu => { cpu with a := 0x10, flags := flagsOf 0x20, pc := 0xC001 }) []).passes = true := by decide +kernel

/-- V-A8-6. -/
theorem test_add_memHl :
    (StepCase.mk [0x86] 8 [(0xC100, 0x12)]
      { Cpu.reset with pc := 0xC000, a := 0x3C, h := 0xC1, l := 0x00 }
      (fun cpu => { cpu with a := 0x4E, flags := flagsOf 0x00, pc := 0xC001 }) []).passes = true := by decide +kernel

/-- V-A8-8. -/
theorem test_adc_carry_alone :
    (StepCase.mk [0x88] 4 []
      { Cpu.reset with pc := 0xC000, a := 0xFF, b := 0x00, flags := flagsOf 0x10 }
      (fun cpu => { cpu with a := 0x00, flags := flagsOf 0xB0, pc := 0xC001 }) []).passes = true := by decide +kernel

/-- V-A8-9. -/
theorem test_adc_n :
    (StepCase.mk [0xCE, 0x0F] 8 []
      { Cpu.reset with pc := 0xC000, a := 0x00, flags := flagsOf 0x10 }
      (fun cpu => { cpu with a := 0x10, flags := flagsOf 0x20, pc := 0xC002 }) []).passes = true := by decide +kernel

/-- V-A8-11. -/
theorem test_sub_half_borrow :
    (StepCase.mk [0xD6, 0x0F] 8 []
      { Cpu.reset with pc := 0xC000, a := 0x3E }
      (fun cpu => { cpu with a := 0x2F, flags := flagsOf 0x60, pc := 0xC002 }) []).passes = true := by decide +kernel

/-- V-A8-12. -/
theorem test_sub_memHl :
    (StepCase.mk [0x96] 8 [(0xC100, 0x40)]
      { Cpu.reset with pc := 0xC000, a := 0x3E, h := 0xC1, l := 0x00 }
      (fun cpu => { cpu with a := 0xFE, flags := flagsOf 0x50, pc := 0xC001 }) []).passes = true := by decide +kernel

/-- V-A8-14. -/
theorem test_sbc_n_all :
    (StepCase.mk [0xDE, 0xFF] 8 []
      { Cpu.reset with pc := 0xC000, a := 0x00, flags := flagsOf 0x10 }
      (fun cpu => { cpu with a := 0x00, flags := flagsOf 0xF0, pc := 0xC002 }) []).passes = true := by decide +kernel

/-- V-A8-15. -/
theorem test_sbc_n_half :
    (StepCase.mk [0xDE, 0x0F] 8 []
      { Cpu.reset with pc := 0xC000, a := 0x10, flags := flagsOf 0x10 }
      (fun cpu => { cpu with a := 0x00, flags := flagsOf 0xE0, pc := 0xC002 }) []).passes = true := by decide +kernel

/-- V-A8-16. -/
theorem test_and_l :
    (StepCase.mk [0xA5] 4 []
      { Cpu.reset with pc := 0xC000, a := 0x5A, l := 0x3F }
      (fun cpu => { cpu with a := 0x1A, flags := flagsOf 0x20, pc := 0xC001 }) []).passes = true := by decide +kernel

/-- V-A8-18. -/
theorem test_xor_a :
    (StepCase.mk [0xAF] 4 []
      { Cpu.reset with pc := 0xC000, a := 0xFF, flags := flagsOf 0xF0 }
      (fun cpu => { cpu with a := 0x00, flags := flagsOf 0x80, pc := 0xC001 }) []).passes = true := by decide +kernel

/-- V-A8-21. -/
theorem test_or_n :
    (StepCase.mk [0xF6, 0x03] 8 []
      { Cpu.reset with pc := 0xC000, a := 0x5A }
      (fun cpu => { cpu with a := 0x5B, flags := flagsOf 0x00, pc := 0xC002 }) []).passes = true := by decide +kernel

/-- V-A8-24. -/
theorem test_cp_memHl :
    (StepCase.mk [0xBE] 8 [(0xC100, 0x40)]
      { Cpu.reset with pc := 0xC000, a := 0x3C, h := 0xC1, l := 0x00 }
      (fun cpu => { cpu with flags := flagsOf 0x50, pc := 0xC001 }) []).passes = true := by decide +kernel

/-- V-A8-25. -/
theorem test_inc_a_keeps_carry :
    (StepCase.mk [0x3C] 4 []
      { Cpu.reset with pc := 0xC000, a := 0xFF, flags := flagsOf 0x10 }
      (fun cpu => { cpu with a := 0x00, flags := flagsOf 0xB0, pc := 0xC001 }) []).passes = true := by decide +kernel

/-- V-A8-28. -/
theorem test_dec_l_wraps :
    (StepCase.mk [0x2D] 4 []
      { Cpu.reset with pc := 0xC000, l := 0x00, flags := flagsOf 0x00 }
      (fun cpu => { cpu with flags := flagsOf 0x60, l := 0xFF, pc := 0xC001 }) []).passes = true := by decide +kernel

/-- V-A8-29. -/
theorem test_inc_memHl :
    (StepCase.mk [0x34] 12 [(0xC100, 0xFF)]
      { Cpu.reset with pc := 0xC000, h := 0xC1, l := 0x00, flags := flagsOf 0x00 }
      (fun cpu => { cpu with flags := flagsOf 0xA0, pc := 0xC001 }) [(0xC100, 0x00)]).passes = true := by decide +kernel

/-- V-A8-30. -/
theorem test_dec_memHl :
    (StepCase.mk [0x35] 12 [(0xC100, 0x10)]
      { Cpu.reset with pc := 0xC000, h := 0xC1, l := 0x00, flags := flagsOf 0x10 }
      (fun cpu => { cpu with flags := flagsOf 0x70, pc := 0xC001 }) [(0xC100, 0x0F)]).passes = true := by decide +kernel

/-! ### 16-bit arithmetic (43_alu16.md) -/

/-- V-A16-1. -/
theorem test_add_hl_bc :
    (StepCase.mk [0x09] 8 []
      { Cpu.reset with pc := 0xC000, h := 0x8A, l := 0x23, b := 0x06, c := 0x05, flags := flagsOf 0x80 }
      (fun cpu => { cpu with flags := flagsOf 0xA0, h := 0x90, l := 0x28, pc := 0xC001 }) []).passes = true := by decide +kernel

/-- V-A16-3. -/
theorem test_add_hl_sp :
    (StepCase.mk [0x39] 8 []
      { Cpu.reset with pc := 0xC000, h := 0xFF, l := 0xFF, sp := 0x0001, flags := flagsOf 0x00 }
      (fun cpu => { cpu with flags := flagsOf 0x30, h := 0x00, l := 0x00, pc := 0xC001 }) []).passes = true := by decide +kernel

/-- V-A16-5. -/
theorem test_inc_bc :
    (StepCase.mk [0x03] 8 []
      { Cpu.reset with pc := 0xC000, b := 0xFF, c := 0xFF, flags := flagsOf 0x00 }
      (fun cpu => { cpu with flags := flagsOf 0x00, b := 0x00, c := 0x00, pc := 0xC001 }) []).passes = true := by decide +kernel

/-- V-A16-6. -/
theorem test_dec_sp :
    (StepCase.mk [0x3B] 8 []
      { Cpu.reset with pc := 0xC000, sp := 0x0000, flags := flagsOf 0xF0 }
      (fun cpu => { cpu with flags := flagsOf 0xF0, sp := 0xFFFF, pc := 0xC001 }) []).passes = true := by decide +kernel

/-- V-A16-10. -/
theorem test_add_sp_e :
    (StepCase.mk [0xE8, 0xFF] 16 []
      { Cpu.reset with pc := 0xC000, sp := 0x0100 }
      (fun cpu => { cpu with flags := flagsOf 0x00, sp := 0x00FF, pc := 0xC002 }) []).passes = true := by decide +kernel

/-! ### Accumulator rotates and flags (44_rotate_misc.md) -/

/-- V-RM-2. -/
theorem test_rlca_clears_z :
    (StepCase.mk [0x07] 4 []
      { Cpu.reset with pc := 0xC000, a := 0x00, flags := flagsOf 0xF0 }
      (fun cpu => { cpu with a := 0x00, flags := flagsOf 0x00, pc := 0xC001 }) []).passes = true := by decide +kernel

/-- V-RM-3. -/
theorem test_rrca :
    (StepCase.mk [0x0F] 4 []
      { Cpu.reset with pc := 0xC000, a := 0x3B }
      (fun cpu => { cpu with a := 0x9D, flags := flagsOf 0x10, pc := 0xC001 }) []).passes = true := by decide +kernel

/-- V-RM-4. -/
theorem test_rla :
    (StepCase.mk [0x17] 4 []
      { Cpu.reset with pc := 0xC000, a := 0x95, flags := flagsOf 0x10 }
      (fun cpu => { cpu with a := 0x2B, flags := flagsOf 0x10, pc := 0xC001 }) []).passes = true := by decide +kernel

/-- V-RM-7. -/
theorem test_rra :
    (StepCase.mk [0x1F] 4 []
      { Cpu.reset with pc := 0xC000, a := 0x01, flags := flagsOf 0x10 }
      (fun cpu => { cpu with a := 0x80, flags := flagsOf 0x10, pc := 0xC001 }) []).passes = true := by decide +kernel

/-- V-RM-10. -/
theorem test_daa_after_add :
    (StepCase.mk [0x27] 4 []
      { Cpu.reset with pc := 0xC000, a := 0x9A, flags := flagsOf 0x00 }
      (fun cpu => { cpu with a := 0x00, flags := flagsOf 0x90, pc := 0xC001 }) []).passes = true := by decide +kernel

/-- V-RM-13. -/
theorem test_daa_after_sub :
    (StepCase.mk [0x27] 4 []
      { Cpu.reset with pc := 0xC000, a := 0xFF, flags := flagsOf 0x70 }
      (fun cpu => { cpu with a := 0x99, flags := flagsOf 0x50, pc := 0xC001 }) []).passes = true := by decide +kernel

/-- V-RM-16. -/
theorem test_cpl :
    (StepCase.mk [0x2F] 4 []
      { Cpu.reset with pc := 0xC000, a := 0x35, flags := flagsOf 0x90 }
      (fun cpu => { cpu with a := 0xCA, flags := flagsOf 0xF0, pc := 0xC001 }) []).passes = true := by decide +kernel

/-- V-RM-17. -/
theorem test_scf :
    (StepCase.mk [0x37] 4 []
      { Cpu.reset with pc := 0xC000, flags := flagsOf 0xE0 }
      (fun cpu => { cpu with flags := flagsOf 0x90, pc := 0xC001 }) []).passes = true := by decide +kernel

/-- V-RM-18. -/
theorem test_ccf :
    (StepCase.mk [0x3F] 4 []
      { Cpu.reset with pc := 0xC000, flags := flagsOf 0xF0 }
      (fun cpu => { cpu with flags := flagsOf 0x80, pc := 0xC001 }) []).passes = true := by decide +kernel

/-! ### The 0xCB page (45_cb_prefixed.md) -/

/-- V-CB-2. -/
theorem test_rlc_memHl :
    (StepCase.mk [0xCB, 0x06] 16 [(0xC100, 0x00)]
      { Cpu.reset with pc := 0xC000, h := 0xC1, l := 0x00, flags := flagsOf 0x10 }
      (fun cpu => { cpu with flags := flagsOf 0x80, pc := 0xC002 }) [(0xC100, 0x00)]).passes = true := by decide +kernel

/-- V-CB-3. -/
theorem test_rrc_c :
    (StepCase.mk [0xCB, 0x09] 8 []
      { Cpu.reset with pc := 0xC000, c := 0x01 }
      (fun cpu => { cpu with flags := flagsOf 0x10, c := 0x80, pc := 0xC002 }) []).passes = true := by decide +kernel

/-- V-CB-4. -/
theorem test_rl_l :
    (StepCase.mk [0xCB, 0x15] 8 []
      { Cpu.reset with pc := 0xC000, l := 0x80, flags := flagsOf 0x00 }
      (fun cpu => { cpu with flags := flagsOf 0x90, l := 0x00, pc := 0xC002 }) []).passes = true := by decide +kernel

/-- V-CB-7. -/
theorem test_rr_memHl :
    (StepCase.mk [0xCB, 0x1E] 16 [(0xC100, 0x8A)]
      { Cpu.reset with pc := 0xC000, h := 0xC1, l := 0x00, flags := flagsOf 0x10 }
      (fun cpu => { cpu with flags := flagsOf 0x00, pc := 0xC002 }) [(0xC100, 0xC5)]).passes = true := by decide +kernel

/-- V-CB-9. -/
theorem test_sla_memHl :
    (StepCase.mk [0xCB, 0x26] 16 [(0xC100, 0xFF)]
      { Cpu.reset with pc := 0xC000, h := 0xC1, l := 0x00 }
      (fun cpu => { cpu with flags := flagsOf 0x10, pc := 0xC002 }) [(0xC100, 0xFE)]).passes = true := by decide +kernel

/-- V-CB-10. -/
theorem test_sra_a :
    (StepCase.mk [0xCB, 0x2F] 8 []
      { Cpu.reset with pc := 0xC000, a := 0x8A }
      (fun cpu => { cpu with a := 0xC5, flags := flagsOf 0x00, pc := 0xC002 }) []).passes = true := by decide +kernel

/-- V-CB-13. -/
theorem test_swap_memHl :
    (StepCase.mk [0xCB, 0x36] 16 [(0xC100, 0xF1)]
      { Cpu.reset with pc := 0xC000, h := 0xC1, l := 0x00 }
      (fun cpu => { cpu with flags := flagsOf 0x00, pc := 0xC002 }) [(0xC100, 0x1F)]).passes = true := by decide +kernel

/-- V-CB-15. -/
theorem test_srl_a :
    (StepCase.mk [0xCB, 0x3F] 8 []
      { Cpu.reset with pc := 0xC000, a := 0xFF }
      (fun cpu => { cpu with a := 0x7F, flags := flagsOf 0x10, pc := 0xC002 }) []).passes = true := by decide +kernel

/-- V-CB-17. -/
theorem test_bit_4_l :
    (StepCase.mk [0xCB, 0x65] 8 []
      { Cpu.reset with pc := 0xC000, l := 0xEF, flags := flagsOf 0x40 }
      (fun cpu => { cpu with flags := flagsOf 0xA0, pc := 0xC002 }) []).passes = true := by decide +kernel

/-- V-CB-18. -/
theorem test_bit_0_memHl :
    (StepCase.mk [0xCB, 0x46] 12 [(0xC100, 0xFE)]
      { Cpu.reset with pc := 0xC000, h := 0xC1, l := 0x00, flags := flagsOf 0x00 }
      (fun cpu => { cpu with flags := flagsOf 0xA0, pc := 0xC002 }) []).passes = true := by decide +kernel

/-- V-CB-20. -/
theorem test_res_3_memHl :
    (StepCase.mk [0xCB, 0x9E] 16 [(0xC100, 0xFF)]
      { Cpu.reset with pc := 0xC000, h := 0xC1, l := 0x00 }
      (fun cpu => { cpu with flags := flagsOf 0xB0, pc := 0xC002 }) [(0xC100, 0xF7)]).passes = true := by decide +kernel

/-- V-CB-21. -/
theorem test_set_3_a :
    (StepCase.mk [0xCB, 0xDF] 8 []
      { Cpu.reset with pc := 0xC000, a := 0x80 }
      (fun cpu => { cpu with a := 0x88, flags := flagsOf 0xB0, pc := 0xC002 }) []).passes = true := by decide +kernel

/-- V-CB-23. -/
theorem test_set_0_memHl_rom :
    (StepCase.mk [0xCB, 0xC6] 16 []
      { Cpu.reset with pc := 0xC000, h := 0x10, l := 0x00 }
      (fun cpu => { cpu with flags := flagsOf 0xB0, pc := 0xC002 }) [(0x1000, 0x00)]).passes = true := by decide +kernel

/-! ### Control transfer (46_control.md) -/

/-- V-CT-1. -/
theorem test_jp_nn :
    (StepCase.mk [0xC3, 0x00, 0x80] 16 []
      { Cpu.reset with pc := 0xC000 }
      (fun cpu => { cpu with flags := flagsOf 0xB0, pc := 0x8000 }) []).passes = true := by decide +kernel

/-- V-CT-3. -/
theorem test_jp_nz_not_taken :
    (StepCase.mk [0xC2, 0x00, 0x80] 12 []
      { Cpu.reset with pc := 0xC000, flags := flagsOf 0x80 }
      (fun cpu => { cpu with flags := flagsOf 0x80, pc := 0xC003 }) []).passes = true := by decide +kernel

/-- V-CT-4. -/
theorem test_jp_c_taken :
    (StepCase.mk [0xDA, 0x34, 0x12] 16 []
      { Cpu.reset with pc := 0xC000, flags := flagsOf 0x10 }
      (fun cpu => { cpu with flags := flagsOf 0x10, pc := 0x1234 }) []).passes = true := by decide +kernel

/-- V-CT-5. -/
theorem test_jp_hl :
    (StepCase.mk [0xE9] 4 []
      { Cpu.reset with pc := 0xC000, h := 0x80, l := 0x00 }
      (fun cpu => { cpu with flags := flagsOf 0xB0, pc := 0x8000 }) []).passes = true := by decide +kernel

/-- V-CT-9. -/
theorem test_jr_wraps :
    (StepCase.mk [0x18, 0x10] 12 []
      { Cpu.reset with pc := 0xFFF0 }
      (fun cpu => { cpu with flags := flagsOf 0xB0, pc := 0x0002 }) []).passes = true := by decide +kernel

/-- V-CT-11. -/
theorem test_jr_z_taken :
    (StepCase.mk [0x28, 0xFA] 12 []
      { Cpu.reset with pc := 0xC000, flags := flagsOf 0x80 }
      (fun cpu => { cpu with flags := flagsOf 0x80, pc := 0xBFFC }) []).passes = true := by decide +kernel

/-- V-CT-10. -/
theorem test_jr_nz_not_taken :
    (StepCase.mk [0x20, 0xFA] 8 []
      { Cpu.reset with pc := 0xC000, flags := flagsOf 0x80 }
      (fun cpu => { cpu with flags := flagsOf 0x80, pc := 0xC002 }) []).passes = true := by decide +kernel

/-- V-CT-13. -/
theorem test_call :
    (StepCase.mk [0xCD, 0x34, 0x12] 24 []
      { Cpu.reset with pc := 0xC000, sp := 0xD000 }
      (fun cpu => { cpu with flags := flagsOf 0xB0, sp := 0xCFFE, pc := 0x1234 }) [(0xCFFF, 0xC0), (0xCFFE, 0x03)]).passes = true := by decide +kernel

/-- V-CT-14. -/
theorem test_call_z_not_taken :
    (StepCase.mk [0xCC, 0x34, 0x12] 12 []
      { Cpu.reset with pc := 0xC000, sp := 0xD000, flags := flagsOf 0x00 }
      (fun cpu => { cpu with flags := flagsOf 0x00, pc := 0xC003 }) [(0xCFFF, 0x00), (0xCFFE, 0x00)]).passes = true := by decide +kernel

/-- V-CT-15. -/
theorem test_call_nc_taken :
    (StepCase.mk [0xD4, 0x34, 0x12] 24 []
      { Cpu.reset with pc := 0xC000, sp := 0xD000, flags := flagsOf 0x00 }
      (fun cpu => { cpu with flags := flagsOf 0x00, sp := 0xCFFE, pc := 0x1234 }) [(0xCFFF, 0xC0), (0xCFFE, 0x03)]).passes = true := by decide +kernel

/-- V-CT-16. -/
theorem test_ret :
    (StepCase.mk [0xC9] 16 [(0xCFFE, 0x03), (0xCFFF, 0xC0)]
      { Cpu.reset with pc := 0xC000, sp := 0xCFFE }
      (fun cpu => { cpu with flags := flagsOf 0xB0, sp := 0xD000, pc := 0xC003 }) []).passes = true := by decide +kernel

/-- V-CT-17. -/
theorem test_ret_nc_not_taken :
    (StepCase.mk [0xD0] 8 [(0xCFFE, 0x03), (0xCFFF, 0xC0)]
      { Cpu.reset with pc := 0xC000, sp := 0xCFFE, flags := flagsOf 0x10 }
      (fun cpu => { cpu with flags := flagsOf 0x10, pc := 0xC001 }) []).passes = true := by decide +kernel

/-- V-CT-18. -/
theorem test_ret_z_taken :
    (StepCase.mk [0xC8] 20 [(0xCFFE, 0x03), (0xCFFF, 0xC0)]
      { Cpu.reset with pc := 0xC000, sp := 0xCFFE, flags := flagsOf 0x80 }
      (fun cpu => { cpu with flags := flagsOf 0x80, sp := 0xD000, pc := 0xC003 }) []).passes = true := by decide +kernel

/-- V-CT-20. -/
theorem test_rst_28 :
    (StepCase.mk [0xEF] 16 []
      { Cpu.reset with pc := 0xC000, sp := 0xD000 }
      (fun cpu => { cpu with flags := flagsOf 0xB0, sp := 0xCFFE, pc := 0x0028 }) [(0xCFFF, 0xC0), (0xCFFE, 0x01)]).passes = true := by decide +kernel

/-! ### System instructions (47_system.md) -/

/-- V-SY-1. -/
theorem test_nop :
    (StepCase.mk [0x00] 4 []
      { Cpu.reset with pc := 0xC000 }
      (fun cpu => { cpu with flags := flagsOf 0xB0, pc := 0xC001 }) []).passes = true := by decide +kernel

/-- V-CT-19: RETI sets IME at once. -/
theorem test_reti :
    let s := storeAt (machine { Cpu.reset with pc := 0xC000, sp := 0xCFFE } [0xD9]) 0xCFFE [0x03, 0xC0]
    (after s).pc = 0xC003 ∧ (after s).sp = 0xD000 ∧ (after s).ctl.ime = true ∧ (after s).ctl.eiDelay = 0 := by
  decide +kernel

/-- V-SY-3 and V-SY-4: IME is set at the end of the instruction after EI. -/
theorem test_ei :
    let s := machine { Cpu.reset with pc := 0xC000 } [0xFB, 0x00, 0x00]
    (after s).ctl.ime = false ∧ (after s).ctl.eiDelay = 1 ∧ (after (after s)).ctl.ime = true ∧
      (after (after s)).ctl.eiDelay = 0 := by
  decide +kernel

/-- V-SY-5: DI cancels an armed EI. -/
theorem test_di :
    let s := machine { Cpu.reset with pc := 0xC000 } [0xFB, 0xF3, 0x00]
    (after (after s)).ctl.ime = false ∧ (after (after s)).ctl.eiDelay = 0 := by
  decide +kernel

/-- V-SY-7: HALT, then idle steps. -/
theorem test_halt :
    let s := machine { Cpu.reset with pc := 0xC000 } [0x76, 0x00]
    (after s).pc = 0xC001 ∧ (after s).ctl.runState = .halted ∧ (after (after s)).ctl.runState = .halted ∧
      stepReport (after s) = .cycles 4 := by
  decide +kernel

/-- V-SY-8: STOP under the default policy. -/
theorem test_stop_fatal :
    let s := machine { Cpu.reset with pc := 0xC000 } [0x10, 0x00]
    (after s).cpu = s.cpu ∧ (after s).ctl.runState = .fatal ∧
      (after s).ctl.fatalRecord = some ⟨.unimplementedOpcode, 0xC000, 0x10⟩ ∧ (after s).bus.timer.divCounter = 0xAB00 := by
  decide +kernel

/-- V-SY-9: STOP under `low_power`. -/
theorem test_stop_low_power :
    let s := { machine { Cpu.reset with pc := 0xC000 } [0x10, 0x00] with params := { Config.defaultParams with stopPolicy := .lowPower } }
    (after s).pc = 0xC002 ∧ (after s).ctl.runState = .stopped ∧ (after s).bus.timer.divCounter = 0 ∧
      after (after s) = after s := by
  decide +kernel

/-- V-SY-10: an illegal byte, and the state after it. -/
theorem test_illegal_dd :
    let s := machine { Cpu.reset with pc := 0xC000 } [0xDD]
    (after s).cpu = s.cpu ∧ (after s).ctl.fatalRecord = some ⟨.invalidOpcode, 0xC000, 0xDD⟩ ∧ after (after s) = after s := by
  decide +kernel

/-! ### Interrupts, HALT and the devices (95_test_vectors.md 2.9 on) -/

/-- V-I-1, first dispatch: V-blank before all others. -/
def allPending : State :=
  let s := machine { Cpu.reset with pc := 0xC000, sp := 0xD000 } []
  { s with bus := { s.bus with intFlag := 0x1F, intEnable := 0x1F }, ctl := { s.ctl with ime := true } }

theorem test_dispatch :
    (after allPending).pc = 0x0040 ∧ (after allPending).sp = 0xCFFE ∧ (after allPending).bus.intFlag = 0x1E ∧
      (after allPending).ctl.ime = false ∧ (after allPending).read 0xCFFF = 0xC0 ∧ stepReport allPending = .cycles 20 := by
  decide +kernel

/-- V-I-6: the HALT bug. -/
def haltBugState : State :=
  let s := machine { Cpu.reset with pc := 0xC000, a := 0x00 } [0x76, 0x3C, 0x00]
  { s with bus := { s.bus with intFlag := 0x01, intEnable := 0x01 },
           params := { Config.defaultParams with haltBug := true } }

theorem test_halt_bug :
    (after haltBugState).ctl.runState = .running ∧ (after haltBugState).ctl.haltBugPending = true ∧
      (after (after haltBugState)).pc = 0xC001 ∧ (after (after haltBugState)).reg .a = 0x01 := by
  decide +kernel

/-- V-I-4: HALTED, the timer about to overflow; the idle step requests interrupt 2. -/
def haltedAtOverflow : State :=
  let s := machine { Cpu.reset with pc := 0xC001 } [0x3C, 0x00]
  { s with ctl := { s.ctl with runState := .halted },
           bus := { s.bus with intEnable := 0x04, timer := ⟨0x000C, 0xFF, 0x80, 0b101⟩ } }

theorem test_timer_overflow :
    (after haltedAtOverflow).bus.timer = ⟨0x0010, 0x80, 0x80, 0b101⟩ ∧ (after haltedAtOverflow).bus.intFlag = 0x04 ∧
      (after haltedAtOverflow).ctl.runState = .halted ∧ (after (after haltedAtOverflow)).pc = 0xC002 := by
  decide +kernel

/-- V-P-1: press, hold, release. -/
theorem test_press_and_release :
    let s := (machine Cpu.reset []).write 0xFF00 0x20
    s.read 0xFF00 = 0xEF ∧ (pressButton .right s).read 0xFF00 = 0xEE ∧ (pressButton .right s).bus.intFlag = 0x10 ∧
      (releaseButton .right (pressButton .right s)).read 0xFF00 = 0xEF := by
  decide +kernel

/-- V-D-1 at two of its points: the first dot of line 144, and the first of a new frame. -/
def displayAt (ly : Byte) (dot : Nat) : Bus :=
  { State.reset.bus with intFlag := 0, lcd := { Lcd.reset with ly := ly, dot := dot, mode := modeAt ly.toNat dot } }

theorem test_vblank_begins :
    let b := displayDot (displayAt 143 455)
    b.lcd.ly = 144 ∧ b.lcd.dot = 0 ∧ b.read 0xFF41 = 0x81 ∧ b.intFlag = 0x01 ∧ b.lcd.generation = 1 := by
  decide +kernel

theorem test_frame_begins :
    let b := displayDot (displayAt 153 455)
    b.lcd.ly = 0 ∧ b.lcd.dot = 0 ∧ b.read 0xFF41 = 0x86 ∧ b.intFlag = 0x00 ∧ b.lcd.generation = 0 := by
  decide +kernel

/-- A pixel of an opaque sprite over the background (R474, R476): tile 1, all pixels colour 3, at the first column. -/
def spriteBus : Bus :=
  { State.reset.bus with
    lcd := { Lcd.reset with lcdc := 0x93, obp0 := 0xE4 },
    vram := [(0x10, 0xFF), (0x11, 0xFF)], oam := [(0, 16), (1, 8), (2, 1), (4, 16), (5, 9), (6, 1)] }

theorem test_sprite_pixel :
    spriteBus.spriteAt (spriteBus.lineSprites 0) 0 0 = some ⟨16, 8, 1, 0⟩ ∧
      spriteBus.pixel (spriteBus.lineSprites 0) 0 0 = 3 ∧
      spriteBus.spriteAt (spriteBus.lineSprites 0) 0 9 = none := by
  decide +kernel

/-! ### States and operands that meet the hypotheses of the obligations -/

/-- The reset state is about to execute, and so is one whose HALT bug is pending. -/
theorem witness_aboutToExecute :
    AboutToExecute State.reset ∧ AboutToExecute (after haltBugState) ∧
      (after haltBugState).ctl.haltBugPending = true ∧ State.reset.ctl.haltBugPending = false :=
  ⟨⟨rfl, rfl, rfl⟩, ⟨by decide +kernel, by decide +kernel, by decide +kernel⟩, by decide +kernel, rfl⟩

/-- StepRunsDecodedInstruction: bytes at PC that decode, with and without the HALT bug, and the instruction's next state. -/
theorem witness_stepRunsDecoded :
    decode [State.reset.read State.reset.pc, State.reset.read (State.reset.pc + 1), State.reset.read (State.reset.pc + 2)] =
        .ok (.nop, [0x00, 0x00]) ∧
      (∃ t, exec .nop State.reset = .next t ∧ t.ctl.runState ≠ .fatal) ∧
      decode [(after haltBugState).read (after haltBugState).pc, (after haltBugState).read (after haltBugState).pc,
        (after haltBugState).read ((after haltBugState).pc + 1)] = .ok (.incA, [0x3C, 0x00]) ∧
      ∃ t, exec .illegalDD State.reset = .next t ∧ t.ctl.runState = .fatal := by
  have r0 : State.reset.read State.reset.pc = 0x00 := by decide +kernel
  have r1 : State.reset.read (State.reset.pc + 1) = 0x00 := by decide +kernel
  have r2 : State.reset.read (State.reset.pc + 2) = 0x00 := by decide +kernel
  have h0 : (after haltBugState).read (after haltBugState).pc = 0x3C := by decide +kernel
  have h1 : (after haltBugState).read ((after haltBugState).pc + 1) = 0x00 := by decide +kernel
  rw [r0, r1, r2, h0, h1]
  exact ⟨rfl, ⟨_, rfl, by decide +kernel⟩, rfl, ⟨_, rfl, rfl⟩⟩

/-- HostEventsApplyBeforeTheStep: a state with an event before its next step. -/
theorem witness_hostEvents :
    let s := { State.reset with input := [[HostEvent.press .start, .release .start], []] }
    s.ctl.runState ≠ .fatal ∧ s.input = [HostEvent.press .start, .release .start] :: [[]] := by
  decide +kernel

/-- The frames of the stores: an address that a store does not reach, at the bounds of the regions and for each kind of I/O
register; the addresses that store bytes, at the bounds of theirs; and stores that reach another address. -/
theorem witness_store_frames :
    State.reset.bus.memoriesOk ∧
      ([0x0000, 0x3FFF, 0x4000, 0x7FFF, 0x8000, 0x9FFF, 0xA000, 0xBFFF, 0xC000, 0xDFFF, 0xE000, 0xFDFF, 0xFE00, 0xFE9F] ++
        [0xFEA0, 0xFEFF, 0xFF00, 0xFF01, 0xFF04, 0xFF0F, 0xFF10, 0xFF3F, 0xFF40, 0xFF41, 0xFF44, 0xFF45, 0xFF46, 0xFF4C] ++
        [0xFF7F, 0xFF80, 0xFFFE, 0xFFFF]).all (fun a => !State.reset.bus.reaches a 0xD000) = true ∧
      [0x8000, 0x9FFF, 0xC000, 0xDFFF, 0xE000, 0xFDFF, 0xFE00, 0xFE9F, 0xFF01, 0xFF10, 0xFF3F, 0xFF40, 0xFF46, 0xFF80,
        0xFFFE, 0xFFFF].all State.reset.bus.storesByte = true ∧
      State.reset.bus.reaches 0xE000 0xC000 = true ∧ State.reset.bus.reaches 0xFF46 0xFE00 = true := by
  refine ⟨by decide +kernel, by decide +kernel, by decide +kernel, rfl, rfl⟩

/-- A cartridge with RAM that answers: a store to it is stored, and does not reach another offset. -/
theorem witness_cartRam :
    let b := { State.reset.bus with cart := { Cart.blank with ramSize := 8192 } }
    b.memoriesOk ∧ b.storesByte 0xA000 = true ∧ b.storesByte 0xBFFF = true ∧ b.reaches 0xA000 0xA001 = false ∧
      b.reaches 0xA000 0xA000 = true := by
  refine ⟨by decide +kernel, by decide +kernel, by decide +kernel, by decide +kernel, by decide +kernel⟩

/-- WordStores and Pushes: an address that neither store reaches. -/
theorem witness_two_stores :
    State.reset.bus.reaches 0xCFFF 0xC000 = false ∧
      (State.reset.bus.write 0xCFFF 0x12).reaches 0xCFFE 0xC000 = false := by
  decide +kernel

/-- PopRestoresWhatPushSaved: a stack in work RAM, for every pair. -/
theorem witness_push_pop (r : StackReg) :
    let s := State.reset.setSp 0xD000
    s.bus.memoriesOk ∧ s.bus.storesByte (s.sp - 1) = true ∧
      (s.bus.write (s.sp - 1) ((s.stackPairValue r).extractLsb' 8 8)).storesByte (s.sp - 2) = true ∧
      (s.bus.write (s.sp - 1) ((s.stackPairValue r).extractLsb' 8 8)).reaches (s.sp - 2) (s.sp - 1) = false ∧
      ∃ t u, exec (Instr.push r) s = .next t ∧ exec (Instr.pop r) t = .next u := by
  refine ⟨by decide +kernel, by decide +kernel, by cases r <;> decide +kernel, by cases r <;> decide +kernel, ?_⟩
  exact ⟨_, _, exec_of_means (.push r) _, exec_of_means (.pop r) _⟩

/-- PairLoads, WordArithmetic: the clause that keeps SP has instances. -/
theorem witness_pair_not_sp : Reg16.bc ≠ .sp ∧ Reg16.de ≠ .sp ∧ Reg16.hl ≠ .sp := by decide

/-- OnlyRegs: a register that the instruction does not write. -/
theorem witness_onlyRegs : Reg8.b ∉ [Reg8.a] ∧ Reg8.a ∉ [Reg8.h, .l] ∧ Reg8.l ∉ ([] : List Reg8) := by decide

/-- DecimalAdjustAfterAdditionIsDecimal: 99 + 99 with and without a carry-in. -/
theorem witness_decimal (carry : Bool) :
    let s := (State.reset.setReg .a 0x99).setFlags ⟨false, false, false, carry⟩
    s.reg .a = BitVec.ofNat 8 (16 * 9 + 9) ∧ (0x99 : Byte) = BitVec.ofNat 8 (16 * 9 + 9) ∧
      s.operandValue (.reg .a) = 0x99 ∧
      (∃ t u, exec (Instr.aluImm .adc 0x99) s = .next t ∧ exec .daa t = .next u) ∧
      ∃ t u, exec (Instr.alu .add (.reg .a)) s = .next t ∧ exec .daa t = .next u := by
  refine ⟨by cases carry <;> rfl, rfl, by cases carry <;> rfl,
    ⟨_, _, exec_of_means (.aluImm .adc 0x99) _, exec_of_means .daa _⟩,
    _, _, exec_of_means (.alu .add (.reg .a)) _, exec_of_means .daa _⟩

/-- Jumps, CallsAndRestarts, Returns: each condition holds in one state and fails in another. -/
theorem witness_conditions (cc : Cond) :
    (∃ s : State, s.holds cc = true) ∧ ∃ s : State, s.holds cc = false := by
  cases cc
  · exact ⟨⟨State.reset.setFlags ⟨false, false, false, false⟩, rfl⟩, ⟨State.reset.setFlags ⟨true, false, false, false⟩, rfl⟩⟩
  · exact ⟨⟨State.reset.setFlags ⟨true, false, false, false⟩, rfl⟩, ⟨State.reset.setFlags ⟨false, false, false, false⟩, rfl⟩⟩
  · exact ⟨⟨State.reset.setFlags ⟨false, false, false, false⟩, rfl⟩, ⟨State.reset.setFlags ⟨false, false, false, true⟩, rfl⟩⟩
  · exact ⟨⟨State.reset.setFlags ⟨false, false, false, true⟩, rfl⟩, ⟨State.reset.setFlags ⟨false, false, false, false⟩, rfl⟩⟩

/-- HaltInstruction: the state of the HALT bug, and one that halts. -/
theorem witness_halt :
    (haltBugState.params.haltBug = true ∧ haltBugState.ctl.ime = false ∧ haltBugState.bus.anyCandidate = true) ∧
      State.reset.params.haltBug = false := by
  decide +kernel

/-- StopInstruction: a state of each policy. -/
theorem witness_stop :
    State.reset.params.stopPolicy = .fatal ∧
      ({ State.reset with params := { Config.defaultParams with stopPolicy := .lowPower } } : State).params.stopPolicy =
        .lowPower := by
  decide

/-- OnlyNamedOpcodesAreFatal: an instruction that is fatal and one that is not, from a state that is not FATAL. -/
theorem witness_onlyNamedOpcodes :
    State.reset.ctl.runState ≠ .fatal ∧ (∃ t, exec (Instr.illegal .dd) State.reset = .next t ∧ t.ctl.runState = .fatal) ∧
      (∃ t, exec (.stop 0) State.reset = .next t ∧ t.ctl.runState = .fatal) ∧
      ∃ t, exec .nop State.reset = .next t ∧ t.ctl.runState ≠ .fatal := by
  refine ⟨by decide, ⟨_, rfl, rfl⟩, ⟨_, rfl, rfl⟩, ⟨_, rfl, by decide⟩⟩

/-- OnlyListedInstructionsWriteFlags, ControlStateFrame, NonStoringInstructionsKeepTheBus: NOP is in none of the lists. -/
theorem witness_unlisted :
    ¬ WritesFlag .nop ∧ ¬ TouchesBus .nop ∧ ¬ WritesSp .nop ∧ Instr.nop ≠ .di ∧ Instr.nop ≠ .ei ∧ Instr.nop ≠ .reti ∧
      ∃ t, exec .nop State.reset = .next t := by
  refine ⟨fun h => ?_, fun h => ?_, fun h => ?_, by decide, by decide, by decide, _, rfl⟩ <;>
    (generalize hi : Instr.nop = i at h
     cases h <;>
       first
       | cases hi
       | (rename_i x; cases x <;> first | cases hi | (rename_i r; cases r <;> cases hi))
       | (rename_i x _; cases x <;> cases hi)
       | (rename_i bit; fin_cases bit <;> cases hi)
       | (rename_i bit x; fin_cases bit <;> cases x <;> first | cases hi | (rename_i r; cases r <;> cases hi))
       | (rename_i op x; cases op <;> cases x <;> first | cases hi | (rename_i r; cases r <;> cases hi)))

/-- Whether the number of an address lies between two bounds, the upper one included. -/
def between (lo hi : Nat) (a : Addr) : Bool := decide (lo ≤ a.toNat) && decide (a.toNat ≤ hi)

/-- AddressMap, InputTimerInterruptRegisters and the cartridges: an address at each bound of each range. -/
theorem witness_ranges :
    [0x8000, 0x9FFF].all (between 0x8000 0x9FFF) = true ∧ [0xC000, 0xDFFF].all (between 0xC000 0xDFFF) = true ∧
      [0xE000, 0xFDFF].all (between 0xE000 0xFDFF) = true ∧ [0xFE00, 0xFE9F].all (between 0xFE00 0xFE9F) = true ∧
      [0xFEA0, 0xFEFF].all (between 0xFEA0 0xFEFF) = true ∧ [0xFF80, 0xFFFE].all (between 0xFF80 0xFFFE) = true ∧
      (0xFFFF : Addr).toNat = 0xFFFF ∧ [0xFF08, 0xFF0E].all (between 0xFF08 0xFF0E) = true ∧
      [0xFF4C, 0xFF7F].all (between 0xFF4C 0xFF7F) = true ∧ [0x0000, 0x3FFF].all (between 0x0000 0x3FFF) = true ∧
      [0x4000, 0x7FFF].all (between 0x4000 0x7FFF) = true ∧ [0xA000, 0xBFFF].all (between 0xA000 0xBFFF) = true := by
  decide

/-- RenderedLine: a display about to enter pixel-transfer, one about to publish, and one that is not. -/
theorem witness_rendered_line :
    (let b := { State.reset.bus with lcd := { State.reset.bus.lcd with ly := 143, dot := 79 } }
     b.lcd.enabled = true ∧ b.lcd.ly.toNat < 144 ∧ b.lcd.dot = 79 ∧ b.lcd.fbWork.shaped) ∧
      ((displayAt 143 455).lcd.enabled = true ∧ (displayAt 143 455).lcd.ly = 143 ∧ (displayAt 143 455).lcd.dot = 455 ∧
        (displayAt 142 455).lcd.ly ≠ 143) ∧ State.reset.bus.lcd.fbFront.shaped := by
  decide +kernel

/-- DisplayStatusRequests: the dots at which the mode or LY changes, and a display that is off. -/
theorem witness_display_status :
    [((0 : Byte), 0), (0, 79), (0, 251), (0, 455), (142, 455), (143, 455), (144, 455), (152, 455), (153, 455)].all (fun at_ =>
      decide (Lcd.positionOk { State.reset.bus.lcd with ly := at_.1, dot := at_.2, mode := modeAt at_.1.toNat at_.2 })) = true ∧
      Lcd.positionOk { State.reset.bus.lcd with lcdc := 0x11, mode := .hblank } := by
  decide +kernel

/-- Words as spec/opcode_table.json numbers them: a one-byte row, operands above the opcode, a row of the second table, and the
lone prefix. -/
theorem test_table_words :
    decodeTableWord 8 0x41 = some .ldBC ∧ decodeTableWord 24 0xC234FA = some (.ldAMemNn 0xC234) ∧
      decodeTableWord 16 0xCB65 = some .cbBit4L ∧ decodeTableWord 8 0xCB = some .prefixCb ∧
      (match step (State.reset.withFetchWord 24 0xC23401) with
        | .next t => t.pairValue .bc == 0xC234 && t.pc == State.reset.pc + 3
        | _ => false) = true := by
  decide +kernel

/-- The cartridges: a bus with each mapper, with RAM that answers and RAM that does not. -/
def busWith (m : Mapper) (ramEnable : Bool) : Bus :=
  { State.reset.bus with cart := { Cart.blank with mapper := m, ramSize := 8192, ramEnable := ramEnable } }

theorem witness_cartridges :
    (busWith .romOnly false).cart.mapper = .romOnly ∧ (busWith (.mbc1 1 0 false) true).cart.mapper = .mbc1 1 0 false ∧
      (busWith (.mbc3 1 8) true).cart.mapper = .mbc3 1 8 ∧ (busWith (.mbc5 0x1FF 15) true).cart.mapper = .mbc5 0x1FF 15 ∧
      (busWith .romOnly false).cart.ramBank = some 0 ∧ (busWith (.mbc1 1 3 true) true).cart.ramBank = some 3 ∧
      (busWith (.mbc3 1 8) true).cart.ramBank = none ∧ (busWith (.mbc5 0 15) false).cart.ramBank = none := by
  decide +kernel

/-- The zero-to-one adjustment (R84, R86) and its absence (R88): a zero written to each ROM bank register. -/
theorem test_bank_zero :
    ((busWith (.mbc1 5 0 false) true).write 0x2000 0x20).cart.mapper = .mbc1 1 0 false ∧
      ((busWith (.mbc3 5 0) true).write 0x3FFF 0x80).cart.mapper = .mbc3 1 0 ∧
      ((busWith (.mbc5 0x105 0) true).write 0x2FFF 0x00).cart.mapper = .mbc5 0x100 0 := by
  decide +kernel

/-- FatalStateIsFinal: a FATAL state, a state at an illegal byte, a state at a STOP. -/
theorem witness_fatal :
    (∃ s : State, s.ctl.runState = .fatal) ∧
      (let s := machine { Cpu.reset with pc := 0xC000 } [0xFD]
       s.read s.pc ∈ illegalBytes ∧ s.ctl.runState = .running ∧ s.input = [] ∧ s.dispatches = false) ∧
      (let s := machine { Cpu.reset with pc := 0xC000 } [0x10]
       s.read s.pc = 0x10 ∧ s.params.stopPolicy = .fatal ∧ s.ctl.runState = .running ∧ s.input = [] ∧
         s.dispatches = false) := by
  refine ⟨⟨State.reset.raiseFatal .invalidOpcode 0 0xDD, rfl⟩, by decide +kernel, by decide +kernel⟩

/-- InterruptDispatch: the lowest and the highest interrupt, from a running and from a halted state. -/
theorem witness_dispatch :
    (allPending.ctl.runState = .running ∧ allPending.input = [] ∧ allPending.ctl.ime = true ∧
        allPending.bus.candidate 0 = true ∧ ∀ j, j < 0 → allPending.bus.candidate j = false) ∧
      (let s := { allPending with bus := { allPending.bus with intFlag := 0x10 },
                                  ctl := { allPending.ctl with runState := .halted } }
       s.ctl.runState = .halted ∧ s.bus.candidate 4 = true ∧ ∀ j, j < 4 → s.bus.candidate j = false) := by
  refine ⟨⟨rfl, by decide +kernel, rfl, by decide +kernel, by decide +kernel⟩, rfl, by decide +kernel, by decide +kernel⟩

/-- HaltedAndStoppedStates: halted with and without a candidate, and stopped with a press that ends it. -/
theorem witness_halted :
    (haltedAtOverflow.ctl.runState = .halted ∧ haltedAtOverflow.input = [] ∧ haltedAtOverflow.bus.anyCandidate = false) ∧
      ((after haltedAtOverflow).ctl.runState = .halted ∧ (after haltedAtOverflow).input = [] ∧
        (after haltedAtOverflow).bus.anyCandidate = true ∧ (after haltedAtOverflow).ctl.ime = false) := by
  decide +kernel

theorem witness_stopped :
    let s := { State.reset with ctl := { Control.reset with runState := .stopped } }
    s.ctl.runState = .stopped ∧ s.input = [] ∧ s.bus.joypad.buttons.getLsbD Button.start.bit = false ∧
      s.bus.joypad.p1Select.getLsbD 1 = false ∧ (applyEvent s (.press .start)).ctl.runState = .running ∧
      (applyEvent s (.release .start)).ctl.runState = .stopped := by
  decide +kernel

/-- InterruptsAreEnabledAfterTheNextInstruction: a state at EI, one after it, one at DI. -/
theorem witness_ei :
    (let s := machine { Cpu.reset with pc := 0xC000 } [0xFB, 0x00]
     s.read s.pc = 0xFB ∧ s.ctl.runState = .running ∧ s.input = [] ∧ s.dispatches = false ∧
       (after s).ctl.eiDelay = 1 ∧ (after s).read (after s).pc = 0x00 ∧ (after s).ctl.runState = .running ∧
       (after s).input = [] ∧ (after s).dispatches = false ∧ (after (after s)).ctl.runState ≠ .fatal) ∧
      (let s := machine { Cpu.reset with pc := 0xC000 } [0xF3]
       s.read s.pc = 0xF3 ∧ s.ctl.runState = .running ∧ s.input = [] ∧ s.dispatches = false) := by
  decide +kernel

/-- DividerDrivesTheTimer: a stopped timer, and a running one before, at, and at an overflowing tick. -/
theorem witness_timer :
    State.reset.bus.timer.tac.getLsbD 2 = false ∧
      (let b := { State.reset.bus with timer := ⟨0x000E, 0xFF, 0x80, 0b101⟩ }
       b.timer.tac.getLsbD 2 = true ∧ (b.timer.divCounter.toNat + 1) % timerPeriod b.timer.tac ≠ 0) ∧
      (let b := { State.reset.bus with timer := ⟨0xFFFF, 0xFF, 0x80, 0b100⟩ }
       b.timer.tac.getLsbD 2 = true ∧ (b.timer.divCounter.toNat + 1) % timerPeriod b.timer.tac = 0 ∧
         b.timer.tima = 0xFF) := by
  decide

/-- DisplayFollowsItsFrame and StepKeepsDisplayInStep: the first and the last dot of a frame. -/
theorem witness_display :
    (displayAt 0 0).lcd.enabled = true ∧ (displayAt 0 0).lcd.positionOk ∧ (displayAt 153 455).lcd.enabled = true ∧
      (displayAt 153 455).lcd.positionOk ∧ (displayAt 143 252).lcd.positionOk := by
  decide +kernel

/-- DisplaySwitching: switching off, switching on, and neither. -/
theorem witness_switching :
    Lcd.reset.enabled = true ∧ (0x11 : Byte).getLsbD 7 = false ∧ ({ Lcd.reset with lcdc := 0x11 } : Lcd).enabled = false ∧
      (0x91 : Byte).getLsbD 7 = true ∧ Lcd.reset.enabled = (0x80 : Byte).getLsbD 7 := by
  decide

/-- SpritePriority: a line with two sprites, a pixel where one shows, and one where none does. -/
theorem witness_sprites :
    (spriteBus.lineSprites 0).length = 2 ∧ spriteBus.spriteAt (spriteBus.lineSprites 0) 0 4 = some ⟨16, 8, 1, 0⟩ ∧
      spriteBus.spriteAt (spriteBus.lineSprites 0) 0 20 = none ∧ spriteBus.entryOnLine 0 0 = true ∧
      spriteBus.entryOnLine 0 39 = false := by
  decide +kernel

/-- ButtonEvents: a released and a pressed button. -/
theorem witness_buttons :
    State.reset.bus.joypad.buttons.getLsbD Button.up.bit = false ∧
      (pressButton .up State.reset).bus.joypad.buttons.getLsbD Button.up.bit = true := by
  decide +kernel

/-- An image of more than 0x8000 bytes with a header: cartridge type, ROM size code, RAM size code. -/
def imageWith (type romCode ramCode : Byte) : List Byte :=
  List.replicate 0x0147 0x00 ++ [type, romCode, ramCode] ++ List.replicate 0x8000 0x00

theorem imageWith_length (type romCode ramCode : Byte) : ¬ (imageWith type romCode ramCode).length < 0x8000 := by
  simp only [imageWith, List.length_append, List.length_replicate]
  omega

theorem imageWith_header (type romCode ramCode v : Byte) :
    (imageWith type romCode ramCode).getD 0x0147 v = type ∧ (imageWith type romCode ramCode).getD 0x0148 v = romCode ∧
      (imageWith type romCode ramCode).getD 0x0149 v = ramCode := by
  have h (p q : List Byte) (k : Nat) (hp : p.length = 0x0147) (hk : k < 3) :
      (p ++ [type, romCode, ramCode] ++ q).getD (0x0147 + k) v = [type, romCode, ramCode].getD k v := by
    rw [List.append_assoc, ← hp, List.getD_append_right _ _ _ _ (by omega), Nat.add_sub_cancel_left]
    exact List.getD_append _ _ _ _ hk
  exact ⟨h _ _ 0 List.length_replicate (by decide), h _ _ 1 List.length_replicate (by decide),
    h _ _ 2 List.length_replicate (by decide)⟩

/-- What the header of an image decides (R80, R81): the cartridge's kind and RAM size, or the failure. -/
theorem loadCart_imageWith (type romCode ramCode : Byte) :
    (loadCart (imageWith type romCode ramCode) []).map (fun c => (c.mapper, c.romBanks, c.ramSize)) =
      match mapperOfType type, romBanksOfCode romCode, ramSizeOfCode ramCode with
      | none, _, _ => .error .unsupportedMapper
      | some _, none, _ => .error .badRomSizeCode
      | some _, some _, none => .error .badRamSizeCode
      | some m, some banks, some size => .ok (m, banks, if typeHasRam type then size else 0) := by
  obtain ⟨h1, h2, h3⟩ := imageWith_header type romCode ramCode fillByte
  simp only [loadCart, if_neg (imageWith_length type romCode ramCode), h1, h2, h3]
  cases mapperOfType type <;> cases romBanksOfCode romCode <;> cases ramSizeOfCode ramCode <;> rfl

/-- LoadValidatesAndResets and ResetMeetsTheInvariants: an image of each failure, and images that load, one whose type forces
its RAM size to 0. -/
theorem witness_load :
    (State.load [] [] RamInit.default Config.defaultParams = .error .romTooSmall) ∧
      (loadCart (imageWith 0x05 0 0) []).map (fun c => (c.mapper, c.romBanks, c.ramSize)) = .error .unsupportedMapper ∧
      (loadCart (imageWith 0x1E 9 0) []).map (fun c => (c.mapper, c.romBanks, c.ramSize)) = .error .badRomSizeCode ∧
      (loadCart (imageWith 0x00 8 6) []).map (fun c => (c.mapper, c.romBanks, c.ramSize)) = .error .badRamSizeCode ∧
      (loadCart (imageWith 0x03 4 2) []).map (fun c => (c.mapper, c.romBanks, c.ramSize)) =
        .ok (.mbc1 1 0 false, 32, 8192) ∧
      (loadCart (imageWith 0x11 8 5) []).map (fun c => (c.mapper, c.romBanks, c.ramSize)) = .ok (.mbc3 1 0, 512, 0) ∧
      ∃ s, State.load (imageWith 0x1B 0 4) [] RamInit.default Config.defaultParams = .ok s := by
  refine ⟨rfl, loadCart_imageWith _ _ _, loadCart_imageWith _ _ _, loadCart_imageWith _ _ _, loadCart_imageWith _ _ _,
    loadCart_imageWith _ _ _, ?_⟩
  have h := loadCart_imageWith 0x1B 0 4
  unfold State.load
  cases hc : loadCart (imageWith 0x1B 0 4) [] with
  | ok c => exact ⟨_, rfl⟩
  | error e => rw [hc] at h; cases h

/-- The invariants' statements: a state that meets each and a step from it. -/
theorem witness_invariants :
    State.reset.bus.memoriesOk ∧ State.reset.bus.lcd.ok ∧ (busWith (.mbc3 1 0) true).cart.mapper.bankNonzero ∧
      ∃ t, step State.reset = .next t :=
  ⟨by decide +kernel, by decide +kernel, show (1 : BitVec 7) ≠ 0 by decide, _, rfl⟩

theorem witness_controlOk : State.reset.ControlOk := ⟨by decide, by decide, by decide, by decide, fun _ h => by cases h⟩

end Sys2Proof.Tests
end

/-!
# The state: what every instruction and every step keeps

The statements about the state (10_state.md): the frame of the control state and of SP over all instructions, the
invariants of a step (the memories' form, the control state, the cartridge), and what reset and a load leave.
-/

namespace Sys2Proof.Machine

/-! ### What the devices and the host's events leave alone -/

/-- The devices' advance changes the timer, IF and the display, and nothing else. -/
theorem advanceDevices_effect (n : Nat) (b : Bus) :
    ∃ t f d, advanceDevices n b = { b with timer := t, intFlag := f, lcd := d } := by
  obtain ⟨t, f, ht⟩ := timerAdvance_change n b
  obtain ⟨d, raised, hd, -, -⟩ := displayAdvance_change n (timerAdvance n b)
  exact ⟨t, f ||| raised, d, by rw [advanceDevices, hd, ht]⟩

@[simp] theorem advanceDevices_cart (n : Nat) (b : Bus) : (advanceDevices n b).cart = b.cart := by
  simp [advanceDevices]

@[simp] theorem hostPhase_params (s : State) : (hostPhase s).params = s.params := by
  obtain ⟨m, f, r, heq, -⟩ := hostPhase_effect s
  rw [heq]

namespace State

variable (s : State)

@[simp] theorem advance_params (n : Nat) : (s.advance n).params = s.params := rfl

@[simp] theorem wake_params : s.wake.params = s.params := by
  rw [wake_effect]

@[simp] theorem atFetch_params : s.atFetch.params = s.params := by
  simp [atFetch]

@[simp] theorem dispatchInterrupt_params : s.dispatchInterrupt.params = s.params := rfl

/-- The bookkeeping after an instruction changes IME and the EI delay alone, and leaves a delay of at most 1 (R416). -/
theorem eiBookkeeping_effect :
    ∃ (ime : Bool) (delay : Fin 3), delay ≤ 1 ∧
      s.eiBookkeeping = { s with ctl := { s.ctl with ime := ime, eiDelay := delay } } := by
  unfold eiBookkeeping
  split
  · rename_i h
    exact ⟨s.ctl.ime, 0, by decide, by rw [← h]⟩
  · exact ⟨true, 0, by decide, rfl⟩
  · exact ⟨s.ctl.ime, 1, by decide, rfl⟩

/-- Nothing follows an instruction that raised Fatal (R400). -/
theorem afterExecute_of_fatal (n : Nat) (h : s.ctl.runState = .fatal) : s.afterExecute n = s := if_pos h

/-- What follows any other instruction changes IME, the EI delay and the bus alone, and leaves a delay of at most 1. -/
theorem afterExecute_effect (n : Nat) (h : s.ctl.runState ≠ .fatal) :
    ∃ (ime : Bool) (delay : Fin 3) (b : Bus), delay ≤ 1 ∧
      s.afterExecute n = { s with ctl := { s.ctl with ime := ime, eiDelay := delay }, bus := b } := by
  obtain ⟨ime, delay, hd, heq⟩ := s.eiBookkeeping_effect
  unfold afterExecute
  rw [if_neg h, heq]
  dsimp only
  split
  · exact ⟨ime, delay, s.bus, hd, rfl⟩
  · exact ⟨ime, delay, advanceDevices n s.bus, hd, rfl⟩

@[simp] theorem afterExecute_params (n : Nat) : (s.afterExecute n).params = s.params := by
  by_cases h : s.ctl.runState = .fatal
  · rw [s.afterExecute_of_fatal n h]
  · obtain ⟨ime, delay, b, -, heq⟩ := s.afterExecute_effect n h
    rw [heq]

/-! ### What the operand forms leave alone -/

@[simp] theorem setPair_ctl (r : Reg16) (v : Addr) : (s.setPair r v).ctl = s.ctl := by
  cases r <;> rfl

@[simp] theorem setStackPair_ctl (r : StackReg) (v : Addr) : (s.setStackPair r v).ctl = s.ctl := by
  cases r <;> rfl

@[simp] theorem stepHl_ctl (m : HlStep) : (s.stepHl m).ctl = s.ctl := by
  cases m <;> rfl

theorem setPair_sp {r : Reg16} (v : Addr) (h : r ≠ .sp) : (s.setPair r v).sp = s.sp := by
  cases r
  case sp => exact absurd rfl h
  all_goals rfl

@[simp] theorem stepHl_sp (m : HlStep) : (s.stepHl m).sp = s.sp := by
  cases m <;> rfl

@[simp] theorem writeOperand_sp (x : Operand8) (v : Byte) : (s.writeOperand x v).sp = s.sp := by
  cases x <;> simp

end State

/-! ### The control state and SP over all instructions (R15 to R19) -/

/-- The instructions that do more to the control state than use up a pending HALT bug (R17 to R19, R330, R341 to R345). -/
inductive ChangesControl : Instr → Prop where
  | di : ChangesControl .di
  | ei : ChangesControl .ei
  | reti : ChangesControl .reti
  | halt : ChangesControl .halt
  | stop (n : Byte) : ChangesControl (.stop n)
  | illegal (op : IllegalByte) : ChangesControl (Instr.illegal op)

theorem cbPage_ctl (op2 : Byte) (s : State) : (cbPage op2 s).ctl = { s.ctl with haltBugPending := false } := by
  unfold cbPage
  split
  · exact (writeOperand_ctl (s.fetched 2) _ _).1
  · rfl
  · exact (writeOperand_ctl (s.fetched 2) _ _).1
  · exact (writeOperand_ctl (s.fetched 2) _ _).1

theorem cbPage_sp (op2 : Byte) (s : State) : (cbPage op2 s).sp = s.sp := by
  unfold cbPage
  split
  · exact (s.fetched 2).writeOperand_sp _ _
  · rfl
  · exact (s.fetched 2).writeOperand_sp _ _
  · exact (s.fetched 2).writeOperand_sp _ _

/-- Every instruction that is not named keeps the control state, a pending HALT bug apart. -/
theorem means_ctl {i : Instr} {f : State → State} (h : Means i f) (hi : ¬ ChangesControl i) (s : State) :
    (f s).ctl = { s.ctl with haltBugPending := false } := by
  cases h
  case di => exact absurd .di hi
  case ei => exact absurd .ei hi
  case reti => exact absurd .reti hi
  case halt => exact absurd .halt hi
  case stop n => exact absurd (.stop n) hi
  case illegal op => exact absurd (.illegal op) hi
  case ldRegReg x y => exact (s.fetched 1).setReg_ctl x _
  case ldRegImm r n => exact (s.fetched 2).setReg_ctl r n
  case ldRegMemHl r => exact (s.fetched 1).setReg_ctl r _
  case ldAHlStep m => exact State.stepHl_ctl _ m
  case ldHlStepA m => exact State.stepHl_ctl _ m
  case ldPairImm r nn => exact (s.fetched 3).setPair_ctl r nn
  case incPair r => exact (s.fetched 1).setPair_ctl r _
  case decPair r => exact (s.fetched 1).setPair_ctl r _
  case pop r => exact (s.fetched 1).popped.setStackPair_ctl r _
  case inc x => exact (writeOperand_ctl (s.fetched 1) x _).1
  case dec x => exact (writeOperand_ctl (s.fetched 1) x _).1
  case shift op x => exact (writeOperand_ctl (s.fetched 2) x _).1
  case res b x => exact (writeOperand_ctl (s.fetched 2) x _).1
  case set b x => exact (writeOperand_ctl (s.fetched 2) x _).1
  case prefixCb => exact cbPage_ctl _ s
  case jpIf cc nn => unfold jumpAbsIf; split <;> rfl
  case jrIf cc e => unfold jumpRelIf; split <;> rfl
  case callIf cc nn => unfold callAbsIf; split <;> rfl
  case retIf cc => unfold retIf; split <;> rfl
  all_goals rfl

/-- Every instruction but those of R16 keeps SP. -/
theorem means_sp {i : Instr} {f : State → State} (h : Means i f) (hi : ¬ WritesSp i) (s : State) : (f s).sp = s.sp := by
  cases h
  case ldPairImm r nn => exact (s.fetched 3).setPair_sp nn (fun hr => hi (hr ▸ .ldSpNn nn))
  case incPair r => exact (s.fetched 1).setPair_sp _ (fun hr => hi (hr ▸ .incSp))
  case decPair r => exact (s.fetched 1).setPair_sp _ (fun hr => hi (hr ▸ .decSp))
  case ldSpHl => exact absurd .ldSpHl hi
  case addSpE e => exact absurd (.addSpE e) hi
  case push r => exact absurd (.push r) hi
  case pop r => exact absurd (.pop r) hi
  case callNn nn => exact absurd (.callNn nn) hi
  case callIf cc nn => exact absurd (.callIf cc nn) hi
  case rst t => exact absurd (.rst t) hi
  case ret => exact absurd .ret hi
  case retIf cc => exact absurd (.retIf cc) hi
  case reti => exact absurd .reti hi
  case ldRegReg x y => exact (s.fetched 1).setReg_sp x _
  case ldRegImm r n => exact (s.fetched 2).setReg_sp r n
  case ldRegMemHl r => exact (s.fetched 1).setReg_sp r _
  case ldAHlStep m => exact State.stepHl_sp _ m
  case ldHlStepA m => exact State.stepHl_sp _ m
  case inc x => exact (s.fetched 1).writeOperand_sp x _
  case dec x => exact (s.fetched 1).writeOperand_sp x _
  case shift op x => exact (s.fetched 2).writeOperand_sp x _
  case res b x => exact (s.fetched 2).writeOperand_sp x _
  case set b x => exact (s.fetched 2).writeOperand_sp x _
  case prefixCb => exact cbPage_sp _ s
  case jpIf cc nn => unfold jumpAbsIf; split <;> rfl
  case jrIf cc e => unfold jumpRelIf; split <;> rfl
  case halt => unfold haltCpu; dsimp only; split <;> rfl
  case stop n => unfold stopCpu; split <;> rfl
  all_goals rfl

/-- An instruction has one meaning. -/
theorem means_unique {i : Instr} {f g : State → State} (hf : Means i f) (hg : Means i g) (s : State) : f s = g s :=
  (next_of_means hf (exec_of_means hg s)).symm

/-- HALT keeps the interrupt enables. -/
theorem haltCpu_interrupts (s : State) :
    (haltCpu s).ctl.ime = s.ctl.ime ∧ (haltCpu s).ctl.eiDelay = s.ctl.eiDelay := by
  unfold haltCpu
  dsimp only
  split <;> exact ⟨rfl, rfl⟩

/-- STOP keeps the interrupt enables. -/
theorem stopCpu_interrupts (s : State) :
    (stopCpu s).ctl.ime = s.ctl.ime ∧ (stopCpu s).ctl.eiDelay = s.ctl.eiDelay := by
  unfold stopCpu
  split <;> exact ⟨rfl, rfl⟩

/-- Every instruction but DI, EI and RETI keeps IME and the EI delay (R17, R18). -/
theorem means_interrupts {i : Instr} {f : State → State} (h : Means i f) (hdi : i ≠ .di) (hei : i ≠ .ei)
    (hreti : i ≠ .reti) (s : State) : (f s).ctl.ime = s.ctl.ime ∧ (f s).ctl.eiDelay = s.ctl.eiDelay := by
  by_cases hi : ChangesControl i
  · cases hi with
    | di => exact absurd rfl hdi
    | ei => exact absurd rfl hei
    | reti => exact absurd rfl hreti
    | halt => rw [means_unique h .halt s]; exact haltCpu_interrupts s
    | stop n => rw [means_unique h (.stop n) s]; exact stopCpu_interrupts s
    | illegal op => rw [means_unique h (.illegal op) s]; exact ⟨rfl, rfl⟩
  · rw [means_ctl h hi s]
    exact ⟨rfl, rfl⟩

/-- Settles O33: over the families, from what each leaves of the control state and of SP; EI alone changes the EI delay and
keeps IME. -/
theorem controlStateFrame : Obligations.ControlStateFrame := by
  intro i s t ht
  obtain ⟨f, hm⟩ := means_exists i
  obtain rfl := next_of_means hm ht
  refine ⟨fun hdi hreti => ?_, fun hdi hei hreti => (means_interrupts hm hdi hei hreti s).2, fun hsp => means_sp hm hsp s,
    means_params hm s⟩
  by_cases hei : i = .ei
  · subst hei
    rw [means_unique hm .ei s]
    rfl
  · exact (means_interrupts hm hdi hei hreti s).1

/-! ### The memories (R26, R27, R90) -/

/-- Settles O55: a step reaches the memories through the bus's stores alone, and every store keeps their form. -/
theorem stepKeepsMemoriesInForm : Obligations.StepKeepsMemoriesInForm := by
  intro s t hs ht
  refine step_bus_induct (P := Bus.memoriesOk) (fun b a v => Bus.write_memoriesOk a v) ?_ (fun b f m h => h) ht hs
  intro n b h
  obtain ⟨tm, f, d, heq⟩ := advanceDevices_effect n b
  rw [heq]
  exact h

/-! ### The cartridge (R27, R84, R86) -/

/-- `d` has the image and the configuration of `c`, and an adjusted bank register that was not zero is not zero. -/
structure Cart.SameConfiguration (c d : Cart) : Prop where
  rom : d.rom = c.rom
  romLength : d.romLength = c.romLength
  romBanks : d.romBanks = c.romBanks
  ramSize : d.ramSize = c.ramSize
  kind : d.mapper.kind = c.mapper.kind
  nonzero : c.mapper.bankNonzero → d.mapper.bankNonzero

theorem Cart.SameConfiguration.refl (c : Cart) : c.SameConfiguration c := ⟨rfl, rfl, rfl, rfl, rfl, id⟩

theorem Cart.SameConfiguration.trans {c d e : Cart} (h : c.SameConfiguration d) (g : d.SameConfiguration e) :
    c.SameConfiguration e where
  rom := g.rom.trans h.rom
  romLength := g.romLength.trans h.romLength
  romBanks := g.romBanks.trans h.romBanks
  ramSize := g.ramSize.trans h.ramSize
  kind := g.kind.trans h.kind
  nonzero := g.nonzero ∘ h.nonzero

/-- The adjustment of a bank register never leaves zero (R84, R86). -/
theorem zeroToOne_ne_zero {w : Nat} (hw : w ≠ 0) (b : BitVec w) : zeroToOne b ≠ 0 := by
  unfold zeroToOne
  split
  · simpa using hw
  · assumption

/-- A write to the mapper's registers keeps the mapper's kind. -/
theorem Cart.writeControl_kind (c : Cart) (a : Addr) (v : Byte) : (c.writeControl a v).mapper.kind = c.mapper.kind := by
  obtain ⟨rom, romLength, romBanks, ramSize, ram, ramEnable, mapper⟩ := c
  cases mapper <;> simp only [Cart.writeControl] <;> split_ifs <;> rfl

/-- A write to the mapper's registers leaves no zero in a register whose write turns zero into one. -/
theorem Cart.writeControl_nonzero (c : Cart) (a : Addr) (v : Byte) (h : c.mapper.bankNonzero) :
    (c.writeControl a v).mapper.bankNonzero := by
  obtain ⟨rom, romLength, romBanks, ramSize, ram, ramEnable, mapper⟩ := c
  cases mapper <;> simp only [Cart.writeControl]
  case romOnly => exact h
  case mbc1 bank1 bank2 mode =>
    split_ifs
    · exact h
    · exact zeroToOne_ne_zero (by decide) _
    · exact h
    · exact h
  case mbc3 romBank ramSel =>
    split_ifs
    · exact h
    · exact zeroToOne_ne_zero (by decide) _
    · exact h
    · exact h
  case mbc5 romBank ramBank => split_ifs <;> trivial

theorem Cart.writeControl_same (c : Cart) (a : Addr) (v : Byte) : c.SameConfiguration (c.writeControl a v) := by
  obtain ⟨hrom, -, hlength, hbanks, hsize⟩ := c.writeControl_memories a v
  exact ⟨hrom, hlength, hbanks, hsize, c.writeControl_kind a v, c.writeControl_nonzero a v⟩

theorem Cart.writeRam_same (c : Cart) (a : Addr) (v : Byte) : c.SameConfiguration (c.writeRam a v) := by
  rw [c.writeRam_eq a v]
  exact ⟨rfl, rfl, rfl, rfl, rfl, id⟩

/-- No I/O register reaches the cartridge. -/
@[simp] theorem Bus.writeIo_cart (b : Bus) (a : Addr) (v : Byte) : (b.writeIo a v).cart = b.cart := by
  unfold Bus.writeIo
  split <;> rfl

theorem Bus.write_sameConfiguration (b : Bus) (a : Addr) (v : Byte) : b.cart.SameConfiguration (b.write a v).cart := by
  unfold Bus.write
  split
  case h_1 => exact b.cart.writeControl_same a v
  case h_2 => exact b.cart.writeControl_same a v
  case h_4 => exact b.cart.writeRam_same a v
  case h_9 => rw [b.writeIo_cart a v]; exact .refl b.cart
  all_goals exact .refl b.cart

/-- No step changes the parameters (R10). -/
theorem step_params {s t : State} (h : step s = .next t) : t.params = s.params := by
  cases step_effect h with
  | dead _ eq => rw [eq]
  | stopped _ _ eq => simp [eq]
  | dispatched _ _ eq => simp [eq]
  | idle _ _ eq => simp [eq]
  | executed f _ _ means eq => simp [eq, (means_params means s.atFetch).1]

/-- Settles O58: every store keeps the cartridge's configuration, and the devices and the host do not reach it. -/
theorem stepKeepsTheCartridge : Obligations.StepKeepsTheCartridge := by
  intro s t ht
  have h : s.bus.cart.SameConfiguration t.bus.cart :=
    step_bus_induct (P := fun b => s.bus.cart.SameConfiguration b.cart)
      (fun b a v hb => hb.trans (b.write_sameConfiguration a v)) (fun n b hb => by rwa [advanceDevices_cart])
      (fun b f m hb => hb) ht (.refl s.bus.cart)
  exact ⟨⟨h.rom, h.romLength, h.romBanks, h.ramSize, h.kind, step_params ht⟩, h.nonzero⟩

/-! ### The control state over a step (R18, R19, R400, R421, R422, R441) -/

/-- The second table's instructions begin with 0xCB (R151, R300). -/
theorem encode_decodeCb_head (b : Byte) : (encode (decodeCb b)).head? = some 0xCB := by
  revert b
  decide

/-- The instruction that three bytes decode to begins with byte 0 (R140, R150). -/
theorem encode_decodeBytes_head (b0 b1 b2 : Byte) : (encode (decodeBytes b0 b1 b2)).head? = some b0 := by
  obtain ⟨k, hk, rfl⟩ : ∃ k < 256, b0 = BitVec.ofNat 8 k := ⟨b0.toNat, b0.isLt, by simp⟩
  rcases lt_trichotomy k 0xCB with hlt | rfl | hgt
  · interval_cases k <;> rfl
  · exact encode_decodeCb_head b1
  · interval_cases k <;> rfl

/-- The exception that an instruction raises in a state (R401): its kind and the byte it names. -/
inductive RaisesAs (s : State) : Instr → FatalKind → Byte → Prop where
  | illegal (op : IllegalByte) : RaisesAs s (Instr.illegal op) .invalidOpcode op.byte
  | stop (n : Byte) (policy : s.params.stopPolicy = .fatal) : RaisesAs s (.stop n) .unimplementedOpcode 0x10

/-- The byte an exception names is the one its instruction begins with. -/
theorem RaisesAs.head {s : State} {i : Instr} {kind : FatalKind} {op : Byte} (h : RaisesAs s i kind op) :
    (encode i).head? = some op := by
  cases h with
  | illegal op => cases op <;> rfl
  | stop n policy => rfl

/-- The bytes of the illegal opcodes are those of R152. -/
theorem illegalByte_byte_mem (op : IllegalByte) : op.byte ∈ illegalBytes := by
  cases op <;> decide

/-- The control state of a machine that is not in FATAL, the EI delay apart: what ControlOk says of it. -/
structure Control.Settled (c : Control) (p : Params) : Prop where
  stopped : c.runState = .stopped → p.stopPolicy = .lowPower
  haltBug : c.haltBugPending = true → p.haltBug = true ∧ c.runState ≠ .halted ∧ c.runState ≠ .stopped
  alive : c.runState ≠ .fatal
  noRecord : c.fatalRecord = none

/-- Outside FATAL, ControlOk speaks of the control state and the parameters alone. -/
theorem State.controlOk_iff_settled {s : State} (h : s.ctl.runState ≠ .fatal) :
    s.ControlOk ↔ s.ctl.Settled s.params ∧ s.ctl.eiDelay ≤ 1 := by
  constructor
  · intro hs
    refine ⟨⟨hs.stopped, hs.haltBug, h, ?_⟩, hs.eiDelay⟩
    have hr : ¬ s.ctl.fatalRecord.isSome = true := fun hr => h (hs.fatal.mpr hr)
    simpa using hr
  · rintro ⟨hs, hd⟩
    exact ⟨hs.stopped, hs.haltBug, hd, by simp [hs.alive, hs.noRecord], by simp [hs.noRecord]⟩

/-- IME and the EI delay do not matter. -/
theorem Control.Settled.interrupts {c : Control} {p : Params} (h : c.Settled p) (ime : Bool) (delay : Fin 3) :
    Control.Settled { c with ime := ime, eiDelay := delay } p := ⟨h.stopped, h.haltBug, h.alive, h.noRecord⟩

/-- A CPU that is made to run again stays in order. -/
theorem Control.Settled.run {c : Control} {p : Params} (h : c.Settled p) :
    Control.Settled { c with runState := .running } p where
  stopped := by simp
  haltBug hb := ⟨(h.haltBug hb).1, by simp, by simp⟩
  alive := by simp
  noRecord := h.noRecord

/-- A pending HALT bug may be used up. -/
theorem Control.Settled.fetched {c : Control} {p : Params} (h : c.Settled p) :
    Control.Settled { c with haltBugPending := false } p := ⟨h.stopped, by simp, h.alive, h.noRecord⟩

/-- The host's events keep the control state in order. -/
theorem hostPhase_settled {s : State} (h : s.ctl.Settled s.params) : (hostPhase s).ctl.Settled s.params := by
  obtain ⟨buttons, intFlag, runState, heq, hr⟩ := hostPhase_effect s
  rw [heq]
  rcases hr with rfl | ⟨-, rfl⟩
  · exact h
  · exact h.run

/-- So does the wake from HALT. -/
theorem State.atFetch_settled {s : State} (h : s.ctl.Settled s.params) : s.atFetch.ctl.Settled s.atFetch.params := by
  have hh := hostPhase_settled h
  rw [State.atFetch_params, State.atFetch, wake_effect]
  rcases wake_runState (hostPhase s) with hr | ⟨-, hr⟩
  · rw [hr]
    exact hh
  · rw [hr]
    exact hh.run

/-- The host's events leave the EI delay alone. -/
@[simp] theorem hostPhase_eiDelay (s : State) : (hostPhase s).ctl.eiDelay = s.ctl.eiDelay := by
  obtain ⟨buttons, intFlag, runState, heq, -⟩ := hostPhase_effect s
  rw [heq]

/-- So does the wake from HALT. -/
@[simp] theorem State.atFetch_eiDelay (s : State) : s.atFetch.ctl.eiDelay = s.ctl.eiDelay := by
  rw [State.atFetch, wake_effect]
  exact hostPhase_eiDelay s

/-- An instruction of a running CPU leaves the control state in order, or raises the exception that is its own. -/
theorem means_settled_or_raises {i : Instr} {f : State → State} (h : Means i f) {s : State}
    (hs : s.ctl.Settled s.params) (hrun : s.ctl.runState = .running) :
    (f s).ctl.Settled s.params ∨ ∃ kind op, RaisesAs s i kind op ∧ f s = s.raiseFatal kind s.pc op := by
  by_cases hi : ChangesControl i
  · cases hi with
    | di => exact .inl (means_unique h .di s ▸ hs.fetched.interrupts false 0)
    | ei => exact .inl (means_unique h .ei s ▸ hs.fetched.interrupts s.ctl.ime 2)
    | reti => exact .inl (means_unique h .reti s ▸ hs.fetched.interrupts true 0)
    | halt =>
      rw [means_unique h .halt s]
      refine .inl ?_
      unfold haltCpu
      dsimp only
      split
      · rename_i hbug
        simp only [Bool.and_eq_true] at hbug
        exact ⟨hs.stopped, fun _ => ⟨hbug.1.1, by simp [hrun], by simp [hrun]⟩, hs.alive, hs.noRecord⟩
      · exact ⟨by simp, by simp, by simp, hs.noRecord⟩
    | stop n =>
      rw [means_unique h (.stop n) s]
      unfold stopCpu
      split
      · rename_i policy
        exact .inr ⟨_, _, .stop n policy, rfl⟩
      · rename_i policy
        exact .inl ⟨fun _ => policy, by simp, by simp, hs.noRecord⟩
    | illegal op => exact .inr ⟨_, _, .illegal op, means_unique h (.illegal op) s⟩
  · rw [means_ctl h hi s]
    exact .inl hs.fetched

/-- The fatal record of an instruction that raises its own exception names the byte at PC (R400, R401). -/
theorem raisesAs_record_ok {s : State} {kind : FatalKind} {op : Byte} (h : RaisesAs s s.fetchInstr kind op) :
    FatalRecord.ok ⟨kind, s.pc, op⟩ (s.raiseFatal kind s.pc op) := by
  have hop : op = s.read s.pc :=
    Option.some.inj (h.head.symm.trans (encode_decodeBytes_head (s.read s.pc) (s.operandByte 0) (s.operandByte 1)))
  refine ⟨rfl, hop, ?_⟩
  generalize s.fetchInstr = i at h
  cases h with
  | illegal op => exact illegalByte_byte_mem op
  | stop n policy => exact ⟨rfl, policy⟩

/-- Raising its own exception leaves the control state in order. -/
theorem raiseFatal_controlOk {s : State} {kind : FatalKind} {op : Byte} (hs : s.ctl.Settled s.params)
    (hd : s.ctl.eiDelay ≤ 1) (h : RaisesAs s s.fetchInstr kind op) : (s.raiseFatal kind s.pc op).ControlOk where
  stopped := by simp
  haltBug hb := ⟨(hs.haltBug hb).1, by simp, by simp⟩
  eiDelay := hd
  fatal := by simp
  record r hr := by
    obtain rfl := Option.some.inj hr
    exact raisesAs_record_ok h

/-- What follows an instruction that raised nothing completes the order of the control state: the EI delay is at most 1. -/
theorem afterExecute_controlOk {s : State} (n : Nat) (hs : s.ctl.Settled s.params) : (s.afterExecute n).ControlOk := by
  obtain ⟨ime, delay, b, hd, heq⟩ := s.afterExecute_effect n hs.alive
  rw [heq]
  refine (State.controlOk_iff_settled ?_).mpr ⟨hs.interrupts ime delay, hd⟩
  exact hs.alive

/-- A step in FATAL changes nothing (R400). -/
theorem step_of_fatal {s : State} (h : s.ctl.runState = .fatal) : step s = .next s := by
  unfold step startStep
  rw [if_pos h]

/-- Settles O57: by the five ways a step completes. Outside FATAL there is no record, so the order is a matter of the control
state and the parameters; an instruction keeps it or raises the exception of the byte it was decoded from. -/
theorem stepKeepsControlInOrder : Obligations.StepKeepsControlInOrder := by
  intro s t hs ht
  by_cases hf : s.ctl.runState = .fatal
  · obtain rfl := Host.Outcome.next.inj ((step_of_fatal hf).symm.trans ht)
    exact hs
  obtain ⟨hset, hd⟩ := (State.controlOk_iff_settled hf).mp hs
  have hu := State.atFetch_settled hset
  have hud : s.atFetch.ctl.eiDelay ≤ 1 := by rwa [State.atFetch_eiDelay]
  cases step_effect ht with
  | dead fatal _ => exact absurd fatal hf
  | stopped _ _ eq =>
    have hh := hostPhase_settled hset
    rw [eq]
    exact (State.controlOk_iff_settled hh.alive).mpr ⟨by rwa [hostPhase_params], by rwa [hostPhase_eiDelay]⟩
  | dispatched _ _ eq =>
    rw [eq]
    refine (State.controlOk_iff_settled ?_).mpr ⟨hu.interrupts false 0, Fin.zero_le 1⟩
    exact hu.alive
  | idle _ _ eq =>
    rw [eq]
    refine (State.controlOk_iff_settled ?_).mpr ⟨hu, hud⟩
    exact hu.alive
  | executed f run _ means eq =>
    rw [eq]
    rcases means_settled_or_raises means hu run with hset' | ⟨kind, op, hraise, hfatal⟩
    · exact afterExecute_controlOk _ (by rwa [(means_params means _).1])
    · rw [hfatal, State.afterExecute_of_fatal _ _ rfl]
      exact raiseFatal_controlOk hu hud hraise

/-! ### Reset and load (R80, R81, R403, R500, R501) -/

/-- The sound block at reset reads as the table of R38. -/
theorem soundReset_reads : (List.range 48).map soundReset.read = soundBytes := by
  decide

/-- Settles O53: by evaluation of the one state. -/
theorem resetState : Obligations.ResetState := by
  unfold Obligations.ResetState
  refine ⟨rfl, rfl, rfl, rfl, rfl, rfl, rfl, rfl, rfl, rfl, ?_, rfl, rfl, rfl, rfl, rfl, rfl, rfl, rfl⟩
  decide

/-- The mapper of a cartridge type byte, by the lists of R80. -/
theorem mapperOfType_eq (type : Byte) :
    mapperOfType type =
      if type ∈ [0x00, 0x08, 0x09] then some .romOnly
      else if type ∈ [0x01, 0x02, 0x03] then some (.mbc1 1 0 false)
      else if type ∈ [0x0F, 0x10, 0x11, 0x12, 0x13] then some (.mbc3 1 0)
      else if type ∈ [0x19, 0x1A, 0x1B, 0x1C, 0x1D, 0x1E] then some (.mbc5 1 0)
      else none := by
  revert type
  decide

theorem declaresMapper_of_mapperOfType {type : Byte} {mapper : Mapper} (h : mapperOfType type = some mapper) :
    DeclaresMapper type mapper := by
  rw [mapperOfType_eq] at h
  split_ifs at h with hrom h1 h3 h5 <;> obtain rfl := Option.some.inj h
  · exact .romOnly hrom
  · exact .mbc1 h1
  · exact .mbc3 h3
  · exact .mbc5 h5

theorem mapperOfType_eq_none_iff (type : Byte) : mapperOfType type = none ↔ type ∉ supportedTypes := by
  revert type
  decide

theorem typeHasRam_eq (type : Byte) : typeHasRam type = decide (type ∉ typesWithoutRam) := by
  revert type
  decide

theorem romBanksOfCode_eq_some_iff {code : Byte} {banks : Nat} :
    romBanksOfCode code = some banks ↔ code.toNat ≤ 8 ∧ 2 ^ (code.toNat + 1) = banks := by
  simp [romBanksOfCode]

theorem romBanksOfCode_eq_none_iff {code : Byte} : romBanksOfCode code = none ↔ 8 < code.toNat := by
  simp [romBanksOfCode]

theorem ramSizeOfCode_eq (code : Byte) : ramSizeOfCode code = ramSizes[code.toNat]? := by
  revert code
  decide

theorem ramSizeOfCode_eq_none_iff {code : Byte} : ramSizeOfCode code = none ↔ 5 < code.toNat := by
  rw [ramSizeOfCode_eq, List.getElem?_eq_none_iff]
  exact Iff.rfl

/-- The RAM that a cartridge has, by its type and its RAM size code (R80). -/
theorem declaredRamSize (type : Byte) {code : Byte} {size : Nat} (h : ramSizeOfCode code = some size) :
    (if typeHasRam type then size else 0) = if type ∈ typesWithoutRam then 0 else ramSizes.getD code.toNat 0 := by
  rw [ramSizeOfCode_eq] at h
  by_cases ht : type ∈ typesWithoutRam <;> simp [typeHasRam_eq, ht, List.getD_eq_getElem?_getD, h]

/-- A load reports only failures that the image has (R81, R403). -/
theorem load_error_explains {image cartRam : List Byte} {ram : RamInit} {params : Params} {e : LoadFailure}
    (h : State.load image cartRam ram params = .error e) : e.explains image := by
  rcases load_error h with ⟨rfl, hl⟩ | ⟨-, ⟨rfl, ht⟩ | ⟨rfl, hb⟩ | ⟨rfl, hr⟩⟩
  · exact ⟨rfl, hl⟩
  · exact ⟨rfl, (mapperOfType_eq_none_iff _).mp ht⟩
  · exact ⟨rfl, romBanksOfCode_eq_none_iff.mp hb⟩
  · exact ⟨rfl, ramSizeOfCode_eq_none_iff.mp hr⟩

/-- The checks of R81, in the words of the claims. -/
def LoadChecks (image : List Byte) : Prop :=
  0x8000 ≤ image.length ∧ image.getD 0x0147 0 ∈ supportedTypes ∧ (image.getD 0x0148 0).toNat ≤ 8 ∧
    (image.getD 0x0149 0).toNat ≤ 5

/-- An image that meets the checks has none of the failures. -/
theorem LoadChecks.not_explains {image : List Byte} (h : LoadChecks image) (e : LoadFailure) : ¬ e.explains image := by
  obtain ⟨hlen, htype, hrom, hram⟩ := h
  cases e with
  | romTooSmall => exact fun he => absurd he.2 (by omega)
  | unsupportedMapper => exact fun he => he.2 htype
  | badRomSizeCode => exact fun he => absurd he.2 (by omega)
  | badRamSizeCode => exact fun he => absurd he.2 (by omega)

/-- A load that succeeds has passed the checks. -/
theorem loadChecks_of_ok {image cartRam : List Byte} {ram : RamInit} {params : Params} {s : State}
    (h : State.load image cartRam ram params = .ok s) : LoadChecks image := by
  obtain ⟨hlen, mapper, banks, size, ht, hb, hr, -⟩ := load_ok h
  refine ⟨hlen, ?_, (romBanksOfCode_eq_some_iff.mp hb).1, ?_⟩
  · by_contra hn
    rw [(mapperOfType_eq_none_iff _).mpr hn] at ht
    cases ht
  · by_contra hn
    rw [ramSizeOfCode_eq_none_iff.mpr (by omega)] at hr
    cases hr

/-- A load succeeds exactly when the image passes the checks (R81). -/
theorem load_ok_iff (image cartRam : List Byte) (ram : RamInit) (params : Params) :
    (∃ s, State.load image cartRam ram params = .ok s) ↔ LoadChecks image := by
  constructor
  · rintro ⟨s, hs⟩
    exact loadChecks_of_ok hs
  · intro hc
    cases h : State.load image cartRam ram params with
    | ok s => exact ⟨s, rfl⟩
    | error e => exact absurd (load_error_explains h) (hc.not_explains e)

/-- The registers of every loaded state are those of R501, whatever the cartridge and the memories hold. -/
theorem resetRegisters_of_reset (cart : Cart) (vram wram oam hram : Memory) (params : Params) :
    ResetRegisters ⟨Cpu.reset, Control.reset, Bus.reset cart vram wram oam hram, params, []⟩ where
  cpu := rfl
  ctl := rfl
  interrupts := ⟨rfl, rfl⟩
  timer := rfl
  joypad := rfl
  serial := rfl
  sound := soundReset_reads
  lcd := rfl

/-- Settles O54: the checks by the loader's failures, the state by the one that a load which succeeds answers. -/
theorem loadValidatesAndResets : Obligations.LoadValidatesAndResets := by
  intro image cartRam ram params
  refine ⟨load_ok_iff image cartRam ram params, fun e => load_error_explains, ?_⟩
  intro s hs
  obtain ⟨-, mapper, banks, size, ht, hb, hr, rfl⟩ := load_ok hs
  have hbanks := (romBanksOfCode_eq_some_iff.mp hb).2
  refine ⟨resetRegisters_of_reset _ _ _ _ _ _, rfl, rfl, declaresMapper_of_mapperOfType ht, rfl, rfl, hbanks.symm,
    declaredRamSize _ hr, ?_,
    fun i hi => read_ofBytes_take _ hi, fun i hi => read_ofBytes_take _ hi, fun i hi => read_ofBytes_take _ hi,
    fun i hi => read_ofBytes_take _ hi, fun i hi => read_ofBytes_take _ hi⟩
  intro i hi
  have h := read_ofBytes_take image hi
  rwa [List.take_length] at h

end Sys2Proof.Machine

/-!
# The memory: the bus, the I/O registers and the cartridge

The statements about the memory (20_memory.md): the address map, what each I/O register reads and stores, sprite DMA, the
cartridge's windows and control registers, and which readings a store or an instruction leaves alone.
-/

namespace Sys2Proof.Machine

/-! ### Reads and writes by region (R71 to R73, R95 to R99) -/

theorem wramIndex_of_wram {a : Addr} (h : regionOf a = .wram) : wramIndex a = a.toNat - 0xC000 :=
  if_pos ((regionOf_eq_iff a .wram).mp h).2

theorem wramIndex_of_echo {a : Addr} (h : regionOf a = .echo) : wramIndex a = a.toNat - 0xE000 :=
  if_neg (Nat.not_lt.mpr ((regionOf_eq_iff a .echo).mp h).1)

namespace Bus

section
variable {b : Bus} {a : Addr}

theorem read_of_romFixed (h : regionOf a = .romFixed) : b.read a = b.cart.romByte b.cart.fixedBank a := by
  simp only [Bus.read, h]

theorem read_of_romSwitch (h : regionOf a = .romSwitch) : b.read a = b.cart.romByte b.cart.switchBank a := by
  simp only [Bus.read, h]

theorem read_of_vram (h : regionOf a = .vram) : b.read a = b.vram.read (a.toNat - 0x8000) := by
  simp only [Bus.read, h]

theorem read_of_cartRam (h : regionOf a = .cartRam) : b.read a = b.cart.readRam a := by
  simp only [Bus.read, h]

/-- Work RAM and its echo read by the index both name (R96). -/
theorem read_of_wram (h : regionOf a = .wram ∨ regionOf a = .echo) : b.read a = b.wram.read (wramIndex a) := by
  rcases h with h | h
  · simp only [Bus.read, h, wramIndex_of_wram h]
  · simp only [Bus.read, h, wramIndex_of_echo h]

theorem read_of_oam (h : regionOf a = .oam) : b.read a = b.oam.read (a.toNat - 0xFE00) := by
  simp only [Bus.read, h]

theorem read_of_unusable (h : regionOf a = .unusable) : b.read a = 0xFF := by
  simp only [Bus.read, h, fillByte]

theorem read_of_io (h : regionOf a = .io) : b.read a = b.readIo a := by
  simp only [Bus.read, h]

theorem read_of_hram (h : regionOf a = .hram) : b.read a = b.hram.read (a.toNat - 0xFF80) := by
  simp only [Bus.read, h]

theorem read_of_intEnable (h : regionOf a = .intEnable) : b.read a = b.intEnable := by
  simp only [Bus.read, h]

variable (v : Byte)

theorem write_of_rom (h : regionOf a = .romFixed ∨ regionOf a = .romSwitch) :
    b.write a v = { b with cart := b.cart.writeControl a v } := by
  rcases h with h | h <;> simp only [Bus.write, h]

theorem write_of_vram (h : regionOf a = .vram) :
    b.write a v = { b with vram := b.vram.write (a.toNat - 0x8000) v } := by
  simp only [Bus.write, h]

theorem write_of_cartRam (h : regionOf a = .cartRam) : b.write a v = { b with cart := b.cart.writeRam a v } := by
  simp only [Bus.write, h]

/-- Work RAM and its echo store by the index both name (R96). -/
theorem write_of_wram (h : regionOf a = .wram ∨ regionOf a = .echo) :
    b.write a v = { b with wram := b.wram.write (wramIndex a) v } := by
  rcases h with h | h
  · simp only [Bus.write, h, wramIndex_of_wram h]
  · simp only [Bus.write, h, wramIndex_of_echo h]

theorem write_of_oam (h : regionOf a = .oam) : b.write a v = { b with oam := b.oam.write (a.toNat - 0xFE00) v } := by
  simp only [Bus.write, h]

theorem write_of_unusable (h : regionOf a = .unusable) : b.write a v = b := by
  simp only [Bus.write, h]

theorem write_of_io (h : regionOf a = .io) : b.write a v = b.writeIo a v := by
  simp only [Bus.write, h]

theorem write_of_hram (h : regionOf a = .hram) :
    b.write a v = { b with hram := b.hram.write (a.toNat - 0xFF80) v } := by
  simp only [Bus.write, h]

theorem write_of_intEnable (h : regionOf a = .intEnable) : b.write a v = { b with intEnable := v } := by
  simp only [Bus.write, h]

end
end Bus

/-- Settles O36: each range is a region, by its bounds; 0x2000 lower, the echo's range is work RAM's with the same index. -/
theorem addressMap : Obligations.AddressMap := by
  intro b a v
  refine ⟨fun h1 h2 => ?_, fun h1 h2 => ?_, fun h1 h2 => ?_, fun h1 h2 => ?_, fun h1 h2 => ?_, fun h1 h2 => ?_, fun h => ?_⟩
  · have h := (regionOf_eq_iff a .vram).mpr ⟨h1, h2⟩
    exact ⟨Bus.read_of_vram h, Bus.write_of_vram v h⟩
  · have h := (regionOf_eq_iff a .wram).mpr ⟨h1, h2⟩
    have hi := wramIndex_of_wram h
    exact ⟨hi ▸ Bus.read_of_wram (.inl h), hi ▸ Bus.write_of_wram v (.inl h)⟩
  · have h := (regionOf_eq_iff a .echo).mpr ⟨h1, h2⟩
    have hi := wramIndex_of_echo h
    have hsub : (a - 0x2000).toNat = a.toNat - 0x2000 := by bv_omega
    have hlow : regionOf (a - 0x2000) = .wram := (regionOf_eq_iff _ .wram).mpr (by dsimp only; omega)
    have hilow : wramIndex (a - 0x2000) = wramIndex a := by
      rw [hi, wramIndex_of_wram hlow]
      omega
    refine ⟨hi ▸ Bus.read_of_wram (.inr h), ?_, ?_⟩
    · rw [Bus.read_of_wram (.inr h), Bus.read_of_wram (.inl hlow), hilow]
    · rw [Bus.write_of_wram v (.inr h), Bus.write_of_wram v (.inl hlow), hilow]
  · have h := (regionOf_eq_iff a .oam).mpr ⟨h1, h2⟩
    exact ⟨Bus.read_of_oam h, Bus.write_of_oam v h⟩
  · have h := (regionOf_eq_iff a .unusable).mpr ⟨h1, h2⟩
    exact ⟨Bus.read_of_unusable h, Bus.write_of_unusable v h⟩
  · have h := (regionOf_eq_iff a .hram).mpr ⟨h1, h2⟩
    exact ⟨Bus.read_of_hram h, Bus.write_of_hram v h⟩
  · have h := (regionOf_eq_iff a .intEnable).mpr h
    exact ⟨Bus.read_of_intEnable h, Bus.write_of_intEnable v h⟩

/-! ### Joined bits -/

/-- The number of two joined bit strings. -/
theorem toNat_append_eq_add {m n : Nat} (x : BitVec m) (y : BitVec n) : (x ++ y).toNat = x.toNat * 2 ^ n + y.toNat := by
  rw [BitVec.toNat_append, ← Nat.shiftLeft_add_eq_or_of_lt y.isLt, Nat.shiftLeft_eq]

theorem hi8_toNat (v : Addr) : (hi8 v).toNat = v.toNat / 256 := by
  have hv := v.isLt
  simp only [hi8, BitVec.extractLsb'_toNat, Nat.shiftRight_eq_div_pow]
  omega

/-! ### The I/O registers (R100, R101, R110 to R127) -/

theorem ioRegAt_eq_sound {a : Addr} (h1 : 0xFF10 ≤ a.toNat) (h2 : a.toNat ≤ 0xFF3F) : ioRegAt a = .sound := by
  unfold ioRegAt
  split
  case h_21 => exact if_pos ⟨h1, h2⟩
  all_goals omega

theorem ioRegAt_eq_unmapped {a : Addr}
    (h : a = 0xFF03 ∨ (0xFF08 ≤ a.toNat ∧ a.toNat ≤ 0xFF0E) ∨ (0xFF4C ≤ a.toNat ∧ a.toNat ≤ 0xFF7F)) :
    ioRegAt a = .unmapped := by
  rcases h with rfl | h
  · rfl
  have hs : ¬ (0xFF10 ≤ a.toNat ∧ a.toNat ≤ 0xFF3F) := by omega
  unfold ioRegAt
  split
  case h_21 => exact if_neg hs
  all_goals omega

/-- The I/O addresses with no register read as the fill value and ignore writes (R127). -/
theorem Bus.unmapped_register (b : Bus) (v : Byte) {a : Addr} (hr : regionOf a = .io) (h : ioRegAt a = .unmapped) :
    b.read a = 0xFF ∧ b.write a v = b := by
  rw [Bus.read_of_io hr, Bus.write_of_io v hr]
  simp only [Bus.readIo, Bus.writeIo, h, fillByte, and_self]

/-- A byte of the sound block is plain storage (R118). -/
theorem Bus.sound_register (b : Bus) (v : Byte) {a : Addr} (h1 : 0xFF10 ≤ a.toNat) (h2 : a.toNat ≤ 0xFF3F) :
    b.read a = b.sound.read (a.toNat - 0xFF10) ∧
      b.write a v = { b with sound := b.sound.write (a.toNat - 0xFF10) v } := by
  have hr : regionOf a = .io := (regionOf_eq_iff a .io).mpr (by dsimp only; omega)
  rw [Bus.read_of_io hr, Bus.write_of_io v hr]
  simp only [Bus.readIo, Bus.writeIo, ioRegAt_eq_sound h1 h2, and_self]

/-- P1 as a number (R110): the lines of a group are all ones unless it is selected. -/
theorem Joypad.read_toNat (j : Joypad) :
    j.read.toNat = 0xC0 + 16 * j.p1Select.toNat +
      ((0xF &&& (if j.p1Select.getLsbD 0 then 0xF else 15 - j.buttons.toNat % 16)) &&&
        (if j.p1Select.getLsbD 1 then 0xF else 15 - j.buttons.toNat / 16)) := by
  have hdir : (~~~j.buttons.extractLsb' 0 4).toNat = 15 - j.buttons.toNat % 16 := by simp
  have hact : (~~~j.buttons.extractLsb' 4 4).toNat = 15 - j.buttons.toNat / 16 := by
    have hb := j.buttons.isLt
    simp only [BitVec.toNat_not, BitVec.extractLsb'_toNat, Nat.shiftRight_eq_div_pow]
    omega
  have hmask : (15 - j.buttons.toNat % 16) &&& 15 = 15 - j.buttons.toNat % 16 :=
    (Nat.and_two_pow_sub_one_eq_mod _ 4).trans (by omega)
  have hmask' : 15 &&& (15 - j.buttons.toNat % 16) = 15 - j.buttons.toNat % 16 := (Nat.and_comm _ _).trans hmask
  unfold Joypad.read
  simp only [toNat_append_eq_add]
  split <;> split <;> simp [hdir, hact, hmask, hmask'] <;> omega

/-- STAT as a number (R120). -/
theorem Lcd.readStat_toNat (d : Lcd) :
    d.readStat.toNat = 0x80 + 8 * d.statEn.toNat + (if d.ly = d.lyc then 4 else 0) +
      (match d.mode with | .hblank => 0 | .vblank => 1 | .oamScan => 2 | .transfer => 3) := by
  unfold Lcd.readStat
  simp only [toNat_append_eq_add]
  cases d.mode <;> split <;> simp [LcdMode.bits] <;> omega

/-- Settles O37: each register is read and stored at its own address; the sound block and the addresses with no register by
their ranges. -/
theorem inputTimerInterruptRegisters : Obligations.InputTimerInterruptRegisters := by
  intro b v
  refine ⟨⟨b.joypad.read_toNat, rfl⟩, ⟨rfl, rfl⟩, ⟨rfl, rfl⟩, ⟨hi8_toNat _, rfl⟩, ⟨rfl, rfl⟩, ⟨rfl, rfl⟩,
    ⟨toNat_append_eq_add _ b.timer.tac, rfl⟩, ⟨toNat_append_eq_add _ b.intFlag, rfl⟩, ⟨rfl, rfl⟩, fun k hk => ?_,
    fun a ha => b.unmapped_register v ?_ (ioRegAt_eq_unmapped ha)⟩
  · have hk' : (0xFF10 + BitVec.ofNat 16 k).toNat = 0xFF10 + k := by bv_omega
    have h := b.sound_register v (a := 0xFF10 + BitVec.ofNat 16 k) (by omega) (by omega)
    rwa [hk', Nat.add_sub_cancel_left] at h
  · refine (regionOf_eq_iff a .io).mpr ?_
    rcases ha with rfl | ha
    · decide
    · dsimp only
      omega

/-- Settles O38: each register is read and stored at its own address; STAT is joined from its parts. -/
theorem displayRegisters : Obligations.DisplayRegisters := fun b _ =>
  ⟨⟨b.lcd.readStat_toNat, rfl⟩, ⟨rfl, rfl⟩, ⟨rfl, rfl⟩, ⟨rfl, rfl⟩, ⟨rfl, rfl⟩, ⟨rfl, rfl⟩, ⟨rfl, rfl⟩, ⟨rfl, rfl⟩, ⟨rfl, rfl⟩,
    ⟨rfl, rfl⟩⟩

/-! ### LCDC and DMA (R119, R124, R473) -/

section
variable (d : Lcd) (v : Byte)

/-- A write of LCDC that clears the enable bit of a display that is on switches it off. -/
theorem Lcd.writeLcdc_off (h : d.enabled = true) (hv : v.getLsbD 7 = false) :
    d.writeLcdc v = Lcd.disable { d with lcdc := v } := by
  have hn : Lcd.enabled { d with lcdc := v } = false := hv
  simp only [Lcd.writeLcdc, h, hn]

/-- One that sets the enable bit of a display that is off switches it on. -/
theorem Lcd.writeLcdc_on (h : d.enabled = false) (hv : v.getLsbD 7 = true) :
    d.writeLcdc v = Lcd.enable { d with lcdc := v } := by
  have hn : Lcd.enabled { d with lcdc := v } = true := hv
  simp only [Lcd.writeLcdc, h, hn]

/-- One that keeps the enable bit stores the byte alone. -/
theorem Lcd.writeLcdc_unswitched (h : d.enabled = v.getLsbD 7) : d.writeLcdc v = { d with lcdc := v } := by
  have hn : Lcd.enabled { d with lcdc := v } = d.enabled := h.symm
  simp only [Lcd.writeLcdc, hn]
  cases d.enabled <;> rfl

end

/-- A display that is off stands still (R473). -/
theorem displayDot_of_off {b : Bus} (h : b.lcd.enabled = false) : displayDot b = b := by
  simp [displayDot, h]

theorem displayAdvance_of_off (n : Nat) {b : Bus} (h : b.lcd.enabled = false) : displayAdvance n b = b :=
  displayAdvance_induct (P := (· = b)) (fun _ hc => by rw [hc, displayDot_of_off h]) n rfl

/-- Settles O48: a write of LCDC switches the display off, or on, or neither, by the enable bit before and after. -/
theorem displaySwitching : Obligations.DisplaySwitching := by
  have write_lcdc : ∀ (b : Bus) (v : Byte), b.write 0xFF40 v = { b with lcd := b.lcd.writeLcdc v } := fun _ _ => rfl
  refine ⟨fun _ => rfl, ?_, ?_, ?_, fun n b h => displayAdvance_of_off n h⟩
  · intro b v h hv
    rw [write_lcdc, b.lcd.writeLcdc_off v h hv]
    rfl
  · intro b v h hv
    rw [write_lcdc, b.lcd.writeLcdc_on v h hv]
    rfl
  · intro b v h
    rw [write_lcdc, b.lcd.writeLcdc_unswitched v h]

/-- The address of byte `i` of the source of a DMA write (R124). -/
theorem dmaAddress_eq (v : Byte) (i : Nat) :
    join16 v 0 + BitVec.ofNat 16 i = BitVec.ofNat 16 (256 * v.toNat + i) := by
  have h : join16 v 0 = BitVec.ofNat 16 (256 * v.toNat) := by
    have hv := v.isLt
    have hj : (join16 v 0).toNat = 256 * v.toNat := by
      rw [join16, toNat_append_eq_add, Nat.mul_comm]
      rfl
    apply BitVec.eq_of_toNat_eq
    rw [hj, BitVec.toNat_ofNat, Nat.mod_eq_of_lt (by omega)]
  rw [h, BitVec.ofNat_add]

/-- Byte `i` of what a DMA write copies (R124). -/
theorem Bus.dmaSource_getD (b : Bus) (v w : Byte) {i : Nat} (hi : i < 160) :
    (b.dmaSource v).getD i w = b.read (BitVec.ofNat 16 (256 * v.toNat + i)) := by
  rw [← dmaAddress_eq v i, Bus.dmaSource, List.getD_eq_getElem _ _ (by simpa using hi)]
  simp

/-- A DMA write, as one run of writes to OAM of what the bus with the register stored reads (R124). -/
theorem Bus.write_dma (b : Bus) (v : Byte) :
    b.write 0xFF46 v =
      { b with lcd := { b.lcd with dma := v },
               oam := b.oam.writeAll 0 (({ b with lcd := { b.lcd with dma := v } } : Bus).dmaSource v) } := rfl

/-- What OAM reads after 160 bytes are written to it. -/
theorem read_writeAll_oam {m : Memory} (h : m.wf) {bytes : List Byte} (hlen : bytes.length = 160) {i : Nat} (hi : i < 160) :
    (m.writeAll 0 bytes).read i = bytes.getD i Memory.background := by
  rw [Memory.read_writeAll _ h, hlen, if_pos (by omega), Nat.sub_zero]

/-- Settles O39: the bytes are read from the bus with the register stored, and OAM is written with them alone. -/
theorem spriteDmaCopies : Obligations.SpriteDmaCopies := by
  intro b v hok
  obtain ⟨-, -, hoam, -⟩ := hok
  rw [b.write_dma v]
  generalize hbytes : Bus.dmaSource _ v = bytes
  refine ⟨rfl, fun i hi => ?_, rfl⟩
  have hlen : bytes.length = 160 := by simp [← hbytes, Bus.dmaSource]
  rw [← Bus.dmaSource_getD _ v Memory.background hi, hbytes]
  exact read_writeAll_oam hoam.1 hlen hi

/-! ### The cartridge (R82 to R90) -/

section
variable {b : Bus}

/-- What the windows show follows from the cartridge's three bank numbers. -/
theorem showsBanks_of {fixed switched ramBank : Nat} {ramOn : Bool} (hf : b.cart.fixedBank = fixed)
    (hs : b.cart.switchBank = switched) (hr : b.cart.ramBank = if ramOn then some ramBank else none) :
    ShowsBanks b fixed switched ramOn ramBank := by
  have hread (a : Addr) : b.cart.readRam a = b.cart.lookupRam ramOn ramBank a := by
    unfold Cart.readRam Cart.ramOffset Cart.lookupRam
    rw [hr]
    by_cases h : b.cart.ramSize = 0 <;> cases ramOn <;> simp [h, fillByte]
  have hwrite (a : Addr) (v : Byte) : b.cart.writeRam a v = b.cart.storeRam ramOn ramBank a v := by
    unfold Cart.writeRam Cart.ramOffset Cart.storeRam
    rw [hr]
    by_cases h : b.cart.ramSize = 0 <;> cases ramOn <;> simp [h]
  constructor
  case fixed =>
    intro a h
    rw [Bus.read_of_romFixed ((regionOf_eq_iff a .romFixed).mpr h), hf]
    rfl
  case switched =>
    intro a h1 h2
    rw [Bus.read_of_romSwitch ((regionOf_eq_iff a .romSwitch).mpr ⟨h1, h2⟩), hs]
    rfl
  case ramRead =>
    intro a h1 h2
    rw [Bus.read_of_cartRam ((regionOf_eq_iff a .cartRam).mpr ⟨h1, h2⟩), hread]
  case ramWrite =>
    intro a v h1 h2
    rw [Bus.write_of_cartRam v ((regionOf_eq_iff a .cartRam).mpr ⟨h1, h2⟩), hwrite]

/-- A write below 0x8000 does what the mapper's registers make of it. -/
theorem controlWrites_of {lo hi : Nat} {f : Byte → Cart} (hhi : hi ≤ 0x8000)
    (h : ∀ (a : Addr) (v : Byte), lo ≤ a.toNat → a.toNat < hi → b.cart.writeControl a v = f v) :
    ControlWrites b lo hi f := by
  intro a v h1 h2
  rw [Bus.write_of_rom v ?_, h a v h1 h2]
  by_cases ha : a.toNat < 0x4000
  · exact .inl ((regionOf_eq_iff a .romFixed).mpr ha)
  · exact .inr ((regionOf_eq_iff a .romSwitch).mpr (by dsimp only; omega))

end

/-- RAM is enabled by the low half of the byte (R84, R86, R88). -/
theorem Cart.writeRamEnable_eq (c : Cart) (v : Byte) :
    c.writeRamEnable v = { c with ramEnable := decide (v.toNat % 16 = 0xA) } := rfl

/-- The zero-to-one adjustment of the low bits of a byte, by their number (R84, R86). -/
theorem zeroToOne_extractLsb' (v : Byte) (n : Nat) :
    zeroToOne (v.extractLsb' 0 n) = if v.toNat % 2 ^ n = 0 then 1 else v.extractLsb' 0 n := by
  have h : v.extractLsb' 0 n = 0 ↔ v.toNat % 2 ^ n = 0 := by
    rw [← BitVec.toNat_inj, BitVec.extractLsb'_toNat]
    simp
  simp only [zeroToOne, h]

/-- The ROM bank of MBC5 with its low byte written (R88). -/
theorem romBank_low (bank : BitVec 9) (v : Byte) :
    (bank.extractLsb' 8 1 ++ v : BitVec 9) = BitVec.ofNat 9 (bank.toNat / 256 * 256 + v.toNat) := by
  apply BitVec.eq_of_toNat_eq
  have hb := bank.isLt
  have hv := v.isLt
  rw [toNat_append_eq_add, BitVec.toNat_ofNat, BitVec.extractLsb'_toNat, Nat.shiftRight_eq_div_pow]
  omega

/-- The ROM bank of MBC5 with its top bit written (R88). -/
theorem romBank_high (bank : BitVec 9) (v : Byte) :
    (v.extractLsb' 0 1 ++ bank.extractLsb' 0 8 : BitVec 9) = BitVec.ofNat 9 (v.toNat % 2 * 256 + bank.toNat % 256) := by
  apply BitVec.eq_of_toNat_eq
  rw [toNat_append_eq_add, BitVec.toNat_ofNat, BitVec.extractLsb'_toNat, BitVec.extractLsb'_toNat, Nat.shiftRight_zero,
    Nat.shiftRight_zero]
  omega

/-- Settles O40: the banks are those the mapper's registers give; each control range is one branch of the register writes. -/
theorem romOnlyAndMbc1Cartridges : Obligations.RomOnlyAndMbc1Cartridges := by
  constructor
  case left =>
    intro b h
    refine ⟨showsBanks_of ?_ ?_ ?_, controlWrites_of (le_refl _) fun a v _ _ => ?_⟩
    · simp only [Cart.fixedBank, h]
    · simp only [Cart.switchBank, h]
    · simp only [Cart.ramBank, h, if_true]
    · simp only [Cart.writeControl, h]
  case right =>
    intro b bank1 bank2 mode h
    refine ⟨showsBanks_of ?_ ?_ ?_, controlWrites_of (by decide) fun a v h1 h2 => ?_,
      controlWrites_of (by decide) fun a v h1 h2 => ?_, controlWrites_of (by decide) fun a v h1 h2 => ?_,
      controlWrites_of (by decide) fun a v h1 h2 => ?_⟩
    · simp only [Cart.fixedBank, h, Nat.mul_comm]
    · simp only [Cart.switchBank, h, Nat.mul_comm]
    · simp only [Cart.ramBank, h]
    · simp only [Cart.writeControl, h, if_pos h2, Cart.writeRamEnable_eq]
    · simp (disch := omega) only [Cart.writeControl, h, if_neg, if_pos, zeroToOne_extractLsb', Nat.reducePow]
    · simp (disch := omega) only [Cart.writeControl, h, if_neg, if_pos]
    · simp (disch := omega) only [Cart.writeControl, h, if_neg]

/-- Settles O41: as for O40; MBC5's ROM bank keeps the part that is not written. -/
theorem mbc3AndMbc5Cartridges : Obligations.Mbc3AndMbc5Cartridges := by
  constructor
  case left =>
    intro b romBank ramSel h
    refine ⟨showsBanks_of ?_ ?_ ?_, controlWrites_of (by decide) fun a v h1 h2 => ?_,
      controlWrites_of (by decide) fun a v h1 h2 => ?_, controlWrites_of (by decide) fun a v h1 h2 => ?_,
      controlWrites_of (by decide) fun a v h1 h2 => ?_⟩
    · simp only [Cart.fixedBank, h]
    · simp only [Cart.switchBank, h]
    · simp only [Cart.ramBank, h]
    · simp only [Cart.writeControl, h, if_pos h2, Cart.writeRamEnable_eq]
    · simp (disch := omega) only [Cart.writeControl, h, if_neg, if_pos, zeroToOne_extractLsb', Nat.reducePow]
    · simp (disch := omega) only [Cart.writeControl, h, if_neg, if_pos]
    · simp (disch := omega) only [Cart.writeControl, h, if_neg]
  case right =>
    intro b romBank ramBank h
    refine ⟨showsBanks_of ?_ ?_ ?_, controlWrites_of (by decide) fun a v h1 h2 => ?_,
      controlWrites_of (by decide) fun a v h1 h2 => ?_, controlWrites_of (by decide) fun a v h1 h2 => ?_,
      controlWrites_of (by decide) fun a v h1 h2 => ?_, controlWrites_of (by decide) fun a v h1 h2 => ?_⟩
    · simp only [Cart.fixedBank, h]
    · simp only [Cart.switchBank, h]
    · simp only [Cart.ramBank, h]
    · simp only [Cart.writeControl, h, if_pos h2, Cart.writeRamEnable_eq]
    · simp (disch := omega) only [Cart.writeControl, h, if_neg, if_pos, romBank_low]
    · simp (disch := omega) only [Cart.writeControl, h, if_neg, if_pos, romBank_high]
    · simp (disch := omega) only [Cart.writeControl, h, if_neg, if_pos]
    · simp (disch := omega) only [Cart.writeControl, h, if_neg]

/-! ### What a store reaches outside its own region (R72, R73) -/

/-- The region that names where a region's bytes lie: the cartridge answers in three regions, work RAM in two (R73, R96). -/
def Region.storage : Region → Region
  | .romFixed | .romSwitch | .cartRam => .cartRam
  | .wram | .echo => .wram
  | r => r

/-- Whether two regions are kept in the same place. -/
def Region.shares (r q : Region) : Bool := r.storage == q.storage

theorem Region.eq_of_shares {r q : Region} (h : r.shares q = true) (hc : q.storage ≠ .cartRam) (hw : q.storage ≠ .wram) :
    r = q := by
  cases q
  case romFixed | romSwitch | cartRam => exact absurd rfl hc
  case wram | echo => exact absurd rfl hw
  all_goals
    cases r <;> cases h
    rfl

theorem Region.wram_or_echo_of_shares {r q : Region} (h : r.shares q = true) (hq : q.storage = .wram) :
    r = .wram ∨ r = .echo := by
  simp only [shares, hq, beq_iff_eq] at h
  cases r <;> simp_all [storage]

theorem Region.cartridge_of_shares {r q : Region} (h : r.shares q = true) (hq : q.storage = .cartRam) :
    r = .romFixed ∨ r = .romSwitch ∨ r = .cartRam := by
  simp only [shares, hq, beq_iff_eq] at h
  cases r <;> simp_all [storage]

/-- A write to an I/O register leaves the memories alone, and OAM too unless it is DMA's. -/
theorem Bus.writeIo_memories (b : Bus) (a : Addr) (v : Byte) :
    (b.writeIo a v).vram = b.vram ∧ (b.writeIo a v).wram = b.wram ∧ (b.writeIo a v).hram = b.hram ∧
      (b.writeIo a v).cart = b.cart ∧ (b.writeIo a v).intEnable = b.intEnable ∧
      (ioRegAt a ≠ .dma → (b.writeIo a v).oam = b.oam) := by
  unfold Bus.writeIo
  cases ioRegAt a
  case dma => exact ⟨rfl, rfl, rfl, rfl, rfl, fun h => absurd rfl h⟩
  all_goals exact ⟨rfl, rfl, rfl, rfl, rfl, fun _ => rfl⟩

/-- A write to an I/O register changes no reading outside the I/O region, but DMA's those of OAM. -/
theorem Bus.read_writeIo_of_ne_io (b : Bus) {a x : Addr} (v : Byte) (hx : regionOf x ≠ .io)
    (hdma : ioRegAt a = .dma → regionOf x ≠ .oam) : (b.writeIo a v).read x = b.read x := by
  obtain ⟨hvram, hwram, hhram, hcart, hie, hoam⟩ := b.writeIo_memories a v
  unfold Bus.read
  cases h : regionOf x
  case io => exact absurd h hx
  case oam => simp only [hoam (fun ha => hdma ha h)]
  all_goals simp only [hvram, hwram, hhram, hcart, hie]

/-- A write changes no reading of a region kept elsewhere, but DMA's those of OAM. -/
theorem Bus.read_write_of_not_shared (b : Bus) {a x : Addr} (v : Byte)
    (h : (regionOf x).shares (regionOf a) = false) (hdma : ioRegAt a = .dma → regionOf x ≠ .oam) :
    (b.write a v).read x = b.read x := by
  by_cases hio : regionOf a = .io
  · rw [Bus.write_of_io v hio]
    refine b.read_writeIo_of_ne_io v (fun hx => ?_) hdma
    rw [hx, hio] at h
    cases h
  · unfold Bus.write Bus.read
    generalize regionOf a = r at *
    generalize regionOf x = q at *
    cases r
    case io => exact absurd rfl hio
    all_goals cases q <;> cases h <;> rfl

/-- Two different addresses from `base` on have different indices. -/
theorem index_ne_of_ne {a x : Addr} {base : Nat} (ha : base ≤ a.toNat) (hx : base ≤ x.toNat) (h : x ≠ a) :
    ¬ a.toNat - base = x.toNat - base := by
  intro heq
  exact h (BitVec.eq_of_toNat_eq (by omega))

/-! ### What a store reaches among the I/O registers (R100, R101) -/

/-- Whether the I/O register `q` shows what a write to `r` changes: its own byte, the line compare for LYC, and the line and
the mode for LCDC (R119, R120, R473). -/
def IoReg.shows (q r : IoReg) : Bool :=
  q == r || r == .lyc && q == .stat || r == .lcdc && (q == .stat || q == .ly)

/-- What a write of LCDC leaves alone (R119, R473). -/
theorem Lcd.writeLcdc_effect (d : Lcd) (v : Byte) :
    ∃ (ly : Byte) (dot : Nat) (mode : LcdMode) (line : Byte) (work front : Frame),
      d.writeLcdc v = { d with lcdc := v, ly := ly, dot := dot, mode := mode, windowLine := line, fbWork := work,
                               fbFront := front } := by
  unfold Lcd.writeLcdc
  dsimp only
  split
  · exact ⟨0, 0, .hblank, 0, Frame.blank, Frame.blank, rfl⟩
  · exact ⟨0, 0, .oamScan, 0, d.fbWork, d.fbFront, rfl⟩
  · exact ⟨d.ly, d.dot, d.mode, d.windowLine, d.fbWork, d.fbFront, rfl⟩

/-- A write to one register changes no reading of another that does not show it. -/
theorem Bus.readIo_writeIo_of_not_shown (b : Bus) {a x : Addr} (v : Byte)
    (h : (ioRegAt x).shows (ioRegAt a) = false) : (b.writeIo a v).readIo x = b.readIo x := by
  obtain ⟨ly, dot, mode, line, work, front, hlcdc⟩ := b.lcd.writeLcdc_effect v
  unfold Bus.writeIo Bus.readIo
  rw [hlcdc]
  generalize ioRegAt a = r at *
  generalize ioRegAt x = q at *
  cases r <;> cases q <;> cases h <;> rfl

/-- The address of a register, as an address. -/
theorem eq_ofNat_address {x : Addr} {r : IoReg} (h : ioRegAt x = r) (hs : r ≠ .sound) (hu : r ≠ .unmapped) :
    x = BitVec.ofNat 16 r.address := by
  subst h
  rw [← ioRegAt_address x hs hu, BitVec.ofNat_toNat, BitVec.setWidth_eq]

/-- A write reaches its own address, where the register stores anything. -/
theorem ioReaches_self {a : Addr} (hu : ioRegAt a ≠ .unmapped) (hly : ioRegAt a ≠ .ly) : ioReaches a a = true := by
  unfold ioReaches
  cases h : ioRegAt a
  case unmapped => exact absurd h hu
  case ly => exact absurd h hly
  case lyc => simp [eq_ofNat_address h, IoReg.address]
  case lcdc => simp [eq_ofNat_address h, IoReg.address]
  case dma => simp [eq_ofNat_address h, IoReg.address]
  all_goals exact beq_self_eq_true a

/-- A register that shows what a write changes is at an address the write reaches. -/
theorem ioReaches_of_shows {a x : Addr} (h : (ioRegAt x).shows (ioRegAt a) = true) (hs : ioRegAt a ≠ .sound)
    (hu : ioRegAt a ≠ .unmapped) (hly : ioRegAt a ≠ .ly) : ioReaches a x = true := by
  simp only [IoReg.shows, Bool.or_eq_true, Bool.and_eq_true, beq_iff_eq] at h
  rcases h with (h | ⟨ha, hx⟩) | ⟨ha, hx | hx⟩
  · obtain rfl := ioRegAt_injective h.symm hs hu
    exact ioReaches_self hu hly
  all_goals simp [ioReaches, ha, eq_ofNat_address hx, IoReg.address]

/-! ### What a store reaches in the cartridge (R83, R90) -/

theorem Cart.writeControl_romOnly {c : Cart} (h : c.mapper = .romOnly) (a : Addr) (v : Byte) : c.writeControl a v = c := by
  simp only [Cart.writeControl, h]

/-- What cartridge RAM reads after a write to it: the byte where both addresses reach the same place (R90). -/
theorem Cart.readRam_writeRam {c : Cart} (h : c.ram.wf) (a x : Addr) (v : Byte) :
    (c.writeRam a v).readRam x = if (c.ramOffset a).isSome ∧ c.ramOffset x = c.ramOffset a then v else c.readRam x := by
  unfold Cart.writeRam
  cases ha : c.ramOffset a with
  | none => simp
  | some off =>
    have hx : Cart.ramOffset { c with ram := c.ram.write off v } x = c.ramOffset x := rfl
    unfold Cart.readRam
    rw [hx]
    cases c.ramOffset x with
    | none => simp
    | some offx => simp [Memory.read_write h, eq_comm]

/-- A write to cartridge RAM changes no reading of ROM. -/
theorem Bus.read_writeRam_of_ne_cartRam (b : Bus) (a : Addr) {x : Addr} (v : Byte) (hx : regionOf x ≠ .cartRam) :
    ({ b with cart := b.cart.writeRam a v } : Bus).read x = b.read x := by
  rw [Cart.writeRam_eq]
  unfold Bus.read
  cases h : regionOf x
  case cartRam => exact absurd h hx
  all_goals rfl

/-! ### Every store -/

/-- A write to the cartridge changes no reading of the cartridge that it does not reach (R83, R90). -/
theorem Bus.read_write_cartridge {b : Bus} {a x : Addr} (v : Byte) (hram : b.cart.ram.wf)
    (ha : (regionOf a).storage = .cartRam) (hs : (regionOf x).shares (regionOf a) = true) (h : b.reaches a x = false) :
    (b.write a v).read x = b.read x := by
  have hx := Region.cartridge_of_shares hs ha
  have hrom : regionOf a = .romFixed ∨ regionOf a = .romSwitch → (b.write a v).read x = b.read x := by
    intro hr
    have hmapper : b.cart.mapper = .romOnly := by
      rcases hr with hr | hr <;> rcases hx with hx | hx | hx <;> simpa [reaches, hr, hx] using h
    rw [write_of_rom v hr, Cart.writeControl_romOnly hmapper]
  cases hr : regionOf a
  case romFixed => exact hrom (.inl hr)
  case romSwitch => exact hrom (.inr hr)
  case cartRam =>
    rw [write_of_cartRam v hr]
    by_cases hxr : regionOf x = .cartRam
    · rw [read_of_cartRam hxr, read_of_cartRam hxr, Cart.readRam_writeRam hram, if_neg]
      simpa [reaches, hr, hxr] using h
    · exact b.read_writeRam_of_ne_cartRam a v hxr
  all_goals
    rw [hr] at ha
    cases ha

/-- A write to an I/O register changes no reading of a register that it does not reach (R101, R110 to R127). -/
theorem Bus.readIo_writeIo_of_not_reached {b : Bus} {a x : Addr} (v : Byte) (hsound : b.sound.wf)
    (h : ioReaches a x = false) : (b.writeIo a v).readIo x = b.readIo x := by
  by_cases hu : ioRegAt a = .unmapped
  · simp only [writeIo, hu]
  by_cases hly : ioRegAt a = .ly
  · simp only [writeIo, hly]
  by_cases hshows : (ioRegAt x).shows (ioRegAt a) = true
  swap
  · exact b.readIo_writeIo_of_not_shown v (by simpa using hshows)
  by_cases hs : ioRegAt a = .sound
  · have hx : ioRegAt x = .sound := by simpa [IoReg.shows, hs] using hshows
    have hne : x ≠ a := by simpa [ioReaches, hs] using h
    simp only [writeIo, readIo, hs, hx]
    rw [Memory.read_write hsound, if_neg (index_ne_of_ne (ioRegAt_sound hs).1 (ioRegAt_sound hx).1 hne)]
  · rw [ioReaches_of_shows hshows hs hu hly] at h
    cases h

/-- An I/O register that stores the whole byte reads it back (R112, R114, R118, R119, R121, R123 to R126). -/
theorem Bus.readIo_writeIo_self {b : Bus} {a : Addr} (v : Byte) (hsound : b.sound.wf) (ha : regionOf a = .io)
    (h : b.storesByte a = true) : (b.writeIo a v).readIo a = v := by
  simp only [storesByte, ha] at h
  unfold writeIo readIo
  cases hr : ioRegAt a <;> rw [hr] at h
  case sound =>
    dsimp only
    rw [Memory.read_write hsound, if_pos rfl]
  case lcdc => exact (b.lcd.writeLcdc_registers v).1
  all_goals cases h <;> rfl

/-- A write changes no reading of a region kept in the same place that it does not reach. -/
theorem Bus.read_write_shared {b : Bus} {a x : Addr} (v : Byte) (hok : b.memoriesOk)
    (hs : (regionOf x).shares (regionOf a) = true) (h : b.reaches a x = false) : (b.write a v).read x = b.read x := by
  obtain ⟨hvram, hwram, hoam, hhram, hsound, -, hram⟩ := hok
  have hba := regionOf_bounds a
  have hbx := regionOf_bounds x
  cases ha : regionOf a
  case romFixed | romSwitch | cartRam => exact read_write_cartridge v hram.1 (by rw [ha]; rfl) hs h
  case wram | echo =>
    have hx := Region.wram_or_echo_of_shares hs (by rw [ha]; rfl)
    have hne : wramIndex x ≠ wramIndex a := by
      rcases hx with hx | hx <;> simpa [reaches, ha, hx] using h
    rw [write_of_wram v (by simp [ha]), read_of_wram hx, read_of_wram hx, Memory.read_write hwram.1,
      if_neg hne.symm]
  case unusable => rw [write_of_unusable v ha]
  all_goals
    rw [ha] at hs hba
    have hx := Region.eq_of_shares hs (by decide) (by decide)
    rw [hx] at hbx
  case io =>
    rw [write_of_io v ha, read_of_io hx, read_of_io hx]
    exact readIo_writeIo_of_not_reached v hsound.1 (by simpa [reaches, ha] using h)
  all_goals have hne : x ≠ a := by simpa [reaches, ha] using h
  case vram =>
    rw [write_of_vram v ha, read_of_vram hx, read_of_vram hx, Memory.read_write hvram.1,
      if_neg (index_ne_of_ne hba.1 hbx.1 hne)]
  case oam =>
    rw [write_of_oam v ha, read_of_oam hx, read_of_oam hx, Memory.read_write hoam.1,
      if_neg (index_ne_of_ne hba.1 hbx.1 hne)]
  case hram =>
    rw [write_of_hram v ha, read_of_hram hx, read_of_hram hx, Memory.read_write hhram.1,
      if_neg (index_ne_of_ne hba.1 hbx.1 hne)]
  case intEnable => exact absurd (BitVec.eq_of_toNat_eq (hbx.trans hba.symm)) hne

/-- A write changes no reading that it does not reach. -/
theorem Bus.read_write_of_not_reached {b : Bus} {a x : Addr} (v : Byte) (hok : b.memoriesOk) (h : b.reaches a x = false) :
    (b.write a v).read x = b.read x := by
  by_cases hs : (regionOf x).shares (regionOf a) = true
  · exact read_write_shared v hok hs h
  · refine b.read_write_of_not_shared v (by simpa using hs) ?_
    intro hd hx
    have ha : regionOf a = .io := by
      rw [eq_ofNat_address hd (by decide) (by decide)]
      rfl
    simp [reaches, ha, ioReaches, hd, hx] at h

/-- An address that stores bytes reads back what was written. -/
theorem Bus.read_write_self {b : Bus} {a : Addr} (v : Byte) (hok : b.memoriesOk) (h : b.storesByte a = true) :
    (b.write a v).read a = v := by
  obtain ⟨hvram, hwram, hoam, hhram, hsound, -, hram⟩ := hok
  cases ha : regionOf a
  case vram => rw [write_of_vram v ha, read_of_vram ha, Memory.read_write hvram.1, if_pos rfl]
  case cartRam =>
    rw [write_of_cartRam v ha, read_of_cartRam ha, Cart.readRam_writeRam hram.1, if_pos]
    simpa [storesByte, ha] using h
  case wram | echo =>
    have hr : regionOf a = .wram ∨ regionOf a = .echo := by simp [ha]
    rw [write_of_wram v hr, read_of_wram hr, Memory.read_write hwram.1, if_pos rfl]
  case oam => rw [write_of_oam v ha, read_of_oam ha, Memory.read_write hoam.1, if_pos rfl]
  case io =>
    rw [write_of_io v ha, read_of_io ha]
    exact readIo_writeIo_self v hsound.1 ha h
  case hram => rw [write_of_hram v ha, read_of_hram ha, Memory.read_write hhram.1, if_pos rfl]
  case intEnable => rw [write_of_intEnable v ha, read_of_intEnable ha]
  all_goals simp [storesByte, ha] at h

/-- Settles O35: a write reaches only the place its region is kept in, and there only the addresses named. -/
theorem storeChangesOnlyWhatItReaches : Obligations.StoreChangesOnlyWhatItReaches := fun _ _ v hok =>
  ⟨fun _ => Bus.read_write_of_not_reached v hok, Bus.read_write_self v hok⟩

/-! ### What instructions and steps leave of the bus (R70, R72, R402) -/

namespace State

variable (s : State)

@[simp] theorem setPair_bus (r : Reg16) (v : Addr) : (s.setPair r v).bus = s.bus := by
  cases r <;> rfl

@[simp] theorem setStackPair_bus (r : StackReg) (v : Addr) : (s.setStackPair r v).bus = s.bus := by
  cases r <;> rfl

@[simp] theorem stepHl_bus (m : HlStep) : (s.stepHl m).bus = s.bus := by
  cases m <;> rfl

/-- Writing an operand that is a register keeps the bus. -/
theorem writeOperand_bus {x : Operand8} (v : Byte) (h : x ≠ .memHl) : (s.writeOperand x v).bus = s.bus := by
  cases x with
  | reg r => exact s.setReg_bus r v
  | memHl => exact absurd rfl h

end State

/-- An instruction that is not named by `TouchesBus` keeps the bus. -/
theorem means_bus {i : Instr} {f : State → State} (h : Means i f) (hi : ¬ TouchesBus i) (s : State) : (f s).bus = s.bus := by
  cases h
  case ldMemHlReg r => exact absurd (.ldMemHlReg r) hi
  case ldMemHlN n => exact absurd (.ldMemHlN n) hi
  case ldPointerA p => exact absurd (.ldPointerA p) hi
  case ldMemNnA nn => exact absurd (.ldMemNnA nn) hi
  case ldhMemCA => exact absurd .ldhMemCA hi
  case ldhMemNA n => exact absurd (.ldhMemNA n) hi
  case ldHlStepA m => exact absurd (.ldHlStepA m) hi
  case ldMemNnSp nn => exact absurd (.ldMemNnSp nn) hi
  case push r => exact absurd (.push r) hi
  case callNn nn => exact absurd (.callNn nn) hi
  case callIf cc nn => exact absurd (.callIf cc nn) hi
  case rst t => exact absurd (.rst t) hi
  case stop n => exact absurd (.stop n) hi
  case prefixCb => exact absurd .prefixCb hi
  case ldRegReg x y => exact (s.fetched 1).setReg_bus x _
  case ldRegImm r n => exact (s.fetched 2).setReg_bus r n
  case ldRegMemHl r => exact (s.fetched 1).setReg_bus r _
  case ldAHlStep m => exact State.stepHl_bus _ m
  case ldPairImm r nn => exact (s.fetched 3).setPair_bus r nn
  case incPair r => exact (s.fetched 1).setPair_bus r _
  case decPair r => exact (s.fetched 1).setPair_bus r _
  case pop r => exact (s.fetched 1).popped.setStackPair_bus r _
  case inc x => exact (s.fetched 1).writeOperand_bus _ (fun hx => hi (hx ▸ .incMemHl))
  case dec x => exact (s.fetched 1).writeOperand_bus _ (fun hx => hi (hx ▸ .decMemHl))
  case shift op x => exact (s.fetched 2).writeOperand_bus _ (fun hx => hi (hx ▸ .shift op))
  case res b x => exact (s.fetched 2).writeOperand_bus _ (fun hx => hi (hx ▸ .res b))
  case set b x => exact (s.fetched 2).writeOperand_bus _ (fun hx => hi (hx ▸ .set b))
  case jpIf cc nn => unfold jumpAbsIf; split <;> rfl
  case jrIf cc e => unfold jumpRelIf; split <;> rfl
  case retIf cc => unfold retIf; split <;> rfl
  case halt => unfold haltCpu; dsimp only; split <;> rfl
  all_goals rfl

/-- Settles O34: over the families, a state with the same bus reads as before. -/
theorem nonStoringInstructionsKeepTheBus : Obligations.NonStoringInstructionsKeepTheBus := by
  intro i s t ht hi
  obtain ⟨f, hm⟩ := means_exists i
  obtain rfl := next_of_means hm ht
  have h := means_bus hm hi s
  exact ⟨h, fun a => congrArg (Bus.read · a) h⟩

/-- Every instruction answers a next state (R402). -/
theorem exec_next (i : Instr) (s : State) : ∃ t, exec i s = .next t := by
  obtain ⟨f, hm⟩ := means_exists i
  exact ⟨f s, exec_of_means hm s⟩

/-- Settles O60: a step completes without an instruction, or with what its instruction answers. -/
theorem everyStepAnswersANextState : Obligations.EveryStepAnswersANextState := by
  refine ⟨fun s => ?_, exec_next⟩
  unfold step
  cases startStep s with
  | complete t => exact ⟨t, rfl⟩
  | execute u =>
    obtain ⟨t, ht⟩ := exec_next u.fetchInstr u
    exact ⟨t.afterExecute (instrCycles u.fetchInstr u), by dsimp only; rw [ht]; rfl⟩

end Sys2Proof.Machine

/-!
# Encoding: the decoder and the encoder invert each other

The statements about decoding and encoding (30_encoding.md): what the encoder answers on a decoded instruction, what the
decoder answers on the bytes of each family, the byte 0xCB that begins the second table, and the illegal bytes.
-/

namespace Sys2Proof.Machine

/-! ### Encoding a decoded instruction (R142, R150, R151, R153) -/

/-- The second table, by its second byte (R151). -/
theorem encode_decodeCb (b : Byte) : encode (decodeCb b) = [0xCB, b] := by
  revert b
  decide

/-- The first quarter of the first table, with the bytes of the word `nn` behind byte 0. -/
theorem encode_decodeX0 {b : Byte} (h : field2 b 6 = 0) (nn : Addr) :
    encode (decodeX0 b (lo8 nn) nn) = [b, lo8 nn, hi8 nn].take (lengthOfByte0 b) := by
  have quarter : ∀ b : Byte, field2 b 6 = 0 → b.toNat < 64 := by decide
  obtain ⟨k, hk, rfl⟩ : ∃ k < 64, b = BitVec.ofNat 8 k := ⟨b.toNat, quarter b h, by simp⟩
  clear h
  interval_cases k <;> rfl

/-- The second quarter: loads between operands, and HALT. -/
theorem encode_decodeX1 {b : Byte} (h : field2 b 6 = 1) : encode (decodeX1 b) = [b] ∧ lengthOfByte0 b = 1 := by
  revert b
  decide

/-- The third quarter: the ALU operations on operands. -/
theorem encode_alu_fields {b : Byte} (h : field2 b 6 = 2) :
    encode (Instr.alu (aluOpOfCode (field3 b 3)) (operandOfCode (field3 b 0))) = [b] ∧ lengthOfByte0 b = 1 := by
  revert b
  decide

/-- The last quarter, 0xCB with its second byte included. -/
theorem encode_decodeX3 {b : Byte} (h : field2 b 6 = 3) (nn : Addr) :
    encode (decodeX3 b (lo8 nn) nn) = [b, lo8 nn, hi8 nn].take (lengthOfByte0 b) := by
  have quarter : ∀ b : Byte, field2 b 6 = 3 → 192 ≤ b.toNat := by decide
  obtain ⟨k, hlo, hk, rfl⟩ : ∃ k, 192 ≤ k ∧ k < 256 ∧ b = BitVec.ofNat 8 k :=
    ⟨b.toNat, quarter b h, b.isLt, by simp⟩
  clear h
  rcases lt_trichotomy k 0xCB with hlt | rfl | hgt
  · interval_cases k <;> rfl
  · exact encode_decodeCb (lo8 nn)
  · interval_cases k <;> rfl

/-- Encoding a decoded instruction gives back its bytes, as many as byte 0 says (R153). -/
theorem encode_decodeBytes (b0 b1 b2 : Byte) :
    encode (decodeBytes b0 b1 b2) = [b0, b1, b2].take (lengthOfByte0 b0) := by
  have hlo : lo8 (join16 b2 b1) = b1 := lo8_join16 b2 b1
  have hhi : hi8 (join16 b2 b1) = b2 := hi8_join16 b2 b1
  unfold decodeBytes
  dsimp only
  split
  case h_1 hx =>
    have hq := encode_decodeX0 hx (join16 b2 b1)
    rwa [hlo, hhi] at hq
  case h_2 hx =>
    obtain ⟨hb, hlen⟩ := encode_decodeX1 hx
    simp [hb, hlen]
  case h_3 hx =>
    obtain ⟨hb, hlen⟩ := encode_alu_fields hx
    simp [hb, hlen]
  case h_4 hx =>
    have hq := encode_decodeX3 hx (join16 b2 b1)
    rwa [hlo, hhi] at hq

/-- Three bytes never decode to the lone 0xCB: its encoding is one byte, and an instruction that begins so has two (R141). -/
theorem wellFormed_decodeBytes (b0 b1 b2 : Byte) : WellFormed (decodeBytes b0 b1 b2) := by
  intro hp
  have hhead : (encode .prefixCb).head? = some b0 := hp ▸ encode_decodeBytes_head b0 b1 b2
  obtain rfl : 0xCB = b0 := Option.some.inj hhead
  have htwo : encode .prefixCb = [0xCB, b1] := hp ▸ encode_decodeBytes 0xCB b1 b2
  exact absurd htwo (show [(0xCB : Byte)] ≠ [0xCB, b1] by simp)

/-- Settles O2: by the quarters of the first table; that the instruction is well-formed follows from its encoding. -/
theorem encodeInvertsDecode : Obligations.EncodeInvertsDecode := fun b0 b1 b2 =>
  ⟨wellFormed_decodeBytes b0 b1 b2, encode_decodeBytes b0 b1 b2⟩

/-! ### Decoding, by the length of the instruction (R140, R141, R153) -/

/-- An instruction of one byte: byte 0 alone selects it. -/
theorem decode_oneByte {b : Byte} {i : Instr} (hlen : lengthOfByte0 b = 1) (h : ∀ b1 b2, decodeBytes b b1 b2 = i)
    (rest : List Byte) : decode (b :: rest) = .ok (i, rest) := by
  simp [decode, hlen, h]

/-- An instruction of two bytes is a function of its byte 1. -/
theorem decode_twoBytes {b : Byte} {i : Byte → Instr} (hlen : lengthOfByte0 b = 2)
    (h : ∀ b1 b2, decodeBytes b b1 b2 = i b1) (n : Byte) (rest : List Byte) :
    decode (b :: n :: rest) = .ok (i n, rest) := by
  simp [decode, hlen, h]

/-- An instruction of three bytes is a function of the word its bytes 1 and 2 hold, low byte first (R149). -/
theorem decode_threeBytes {b : Byte} {i : Addr → Instr} (hlen : lengthOfByte0 b = 3)
    (h : ∀ b1 b2, decodeBytes b b1 b2 = i (join16 b2 b1)) (nn : Addr) (rest : List Byte) :
    decode (b :: lo8 nn :: hi8 nn :: rest) = .ok (i nn, rest) := by
  simp [decode, hlen, h]

/-! ### Decoding the second table by its fields (R143, R148, R151) -/

/-- The operand code of an operand names it. -/
@[simp] theorem operandOfCode_code (x : Operand8) : operandOfCode x.code.toFin = x := by
  cases x with
  | reg r => cases r <;> rfl
  | memHl => rfl

/-- The operation code of a rotate or shift names it. -/
@[simp] theorem shiftOpOfCode_code (op : ShiftOp) : shiftOpOfCode op.code.toFin = op := by
  cases op <;> rfl

/-- The fields x, y and z of a byte that is joined of them (R142). -/
theorem fields_append (x : BitVec 2) (y z : BitVec 3) :
    field2 (x ++ y ++ z) 6 = x.toFin ∧ field3 (x ++ y ++ z) 3 = y.toFin ∧ field3 (x ++ y ++ z) 0 = z.toFin := by
  revert x y z
  decide

/-! The bytes of R301 to R311 decode to the instructions they are given for. -/

theorem decodeCb_shift (op : ShiftOp) (x : Operand8) : decodeCb (0b00#2 ++ op.code ++ x.code) = Instr.shift op x := by
  obtain ⟨hx, hy, hz⟩ := fields_append 0b00#2 op.code x.code
  simp [decodeCb, hx, hy, hz]

theorem decodeCb_bit (b : Fin 8) (x : Operand8) : decodeCb (0b01#2 ++ (BitVec.ofFin b : BitVec 3) ++ x.code) =
    Instr.bit b x := by
  obtain ⟨hx, hy, hz⟩ := fields_append 0b01#2 (BitVec.ofFin b) x.code
  simp [decodeCb, hx, hy, hz]

theorem decodeCb_res (b : Fin 8) (x : Operand8) : decodeCb (0b10#2 ++ (BitVec.ofFin b : BitVec 3) ++ x.code) =
    Instr.res b x := by
  obtain ⟨hx, hy, hz⟩ := fields_append 0b10#2 (BitVec.ofFin b) x.code
  simp [decodeCb, hx, hy, hz]

theorem decodeCb_set (b : Fin 8) (x : Operand8) : decodeCb (0b11#2 ++ (BitVec.ofFin b : BitVec 3) ++ x.code) =
    Instr.set b x := by
  obtain ⟨hx, hy, hz⟩ := fields_append 0b11#2 (BitVec.ofFin b) x.code
  simp [decodeCb, hx, hy, hz]

/-- 0xCB and the byte behind it select the second table's instruction (R141, R300). -/
theorem decode_encode_decodeCb (b : Byte) (rest : List Byte) :
    decode (encode (decodeCb b) ++ rest) = .ok (decodeCb b, rest) := by
  rw [encode_decodeCb]
  exact decode_twoBytes rfl (fun _ _ => rfl) b rest

/-! ### Decoding an encoded instruction (R150, R151, R156) -/

/-- Every family of instructions decodes from its encoding. -/
theorem decode_encode_of_means {i : Instr} {f : State → State} (h : Means i f) (hw : WellFormed i) (rest : List Byte) :
    decode (encode i ++ rest) = .ok (i, rest) := by
  cases h
  case prefixCb => exact absurd rfl hw
  -- the second table
  case shift op x => exact decodeCb_shift op x ▸ decode_encode_decodeCb _ rest
  case bit b x => exact decodeCb_bit b x ▸ decode_encode_decodeCb _ rest
  case res b x => exact decodeCb_res b x ▸ decode_encode_decodeCb _ rest
  case set b x => exact decodeCb_set b x ▸ decode_encode_decodeCb _ rest
  -- three bytes
  case ldPairImm r nn => cases r <;> exact decode_threeBytes rfl (fun _ _ => rfl) nn rest
  case ldAMemNn nn => exact decode_threeBytes rfl (fun _ _ => rfl) nn rest
  case ldMemNnA nn => exact decode_threeBytes rfl (fun _ _ => rfl) nn rest
  case ldMemNnSp nn => exact decode_threeBytes rfl (fun _ _ => rfl) nn rest
  case jpNn nn => exact decode_threeBytes rfl (fun _ _ => rfl) nn rest
  case jpIf cc nn => cases cc <;> exact decode_threeBytes rfl (fun _ _ => rfl) nn rest
  case callNn nn => exact decode_threeBytes rfl (fun _ _ => rfl) nn rest
  case callIf cc nn => cases cc <;> exact decode_threeBytes rfl (fun _ _ => rfl) nn rest
  -- two bytes
  case ldRegImm r n => cases r <;> exact decode_twoBytes rfl (fun _ _ => rfl) n rest
  case ldMemHlN n => exact decode_twoBytes rfl (fun _ _ => rfl) n rest
  case ldhAMemN n => exact decode_twoBytes rfl (fun _ _ => rfl) n rest
  case ldhMemNA n => exact decode_twoBytes rfl (fun _ _ => rfl) n rest
  case ldHlSpE e => exact decode_twoBytes rfl (fun _ _ => rfl) e rest
  case addSpE e => exact decode_twoBytes rfl (fun _ _ => rfl) e rest
  case aluImm op n => cases op <;> exact decode_twoBytes rfl (fun _ _ => rfl) n rest
  case jrE e => exact decode_twoBytes rfl (fun _ _ => rfl) e rest
  case jrIf cc e => cases cc <;> exact decode_twoBytes rfl (fun _ _ => rfl) e rest
  case stop n => exact decode_twoBytes rfl (fun _ _ => rfl) n rest
  -- one byte
  case ldRegReg x y => cases x <;> cases y <;> exact decode_oneByte rfl (fun _ _ => rfl) rest
  case ldRegMemHl r => cases r <;> exact decode_oneByte rfl (fun _ _ => rfl) rest
  case ldMemHlReg r => cases r <;> exact decode_oneByte rfl (fun _ _ => rfl) rest
  case ldAPointer p => cases p <;> exact decode_oneByte rfl (fun _ _ => rfl) rest
  case ldPointerA p => cases p <;> exact decode_oneByte rfl (fun _ _ => rfl) rest
  case ldAHlStep m => cases m <;> exact decode_oneByte rfl (fun _ _ => rfl) rest
  case ldHlStepA m => cases m <;> exact decode_oneByte rfl (fun _ _ => rfl) rest
  case push r => cases r <;> exact decode_oneByte rfl (fun _ _ => rfl) rest
  case pop r => cases r <;> exact decode_oneByte rfl (fun _ _ => rfl) rest
  case alu op x =>
    cases x with
    | reg r => cases op <;> cases r <;> exact decode_oneByte rfl (fun _ _ => rfl) rest
    | memHl => cases op <;> exact decode_oneByte rfl (fun _ _ => rfl) rest
  case inc x =>
    cases x with
    | reg r => cases r <;> exact decode_oneByte rfl (fun _ _ => rfl) rest
    | memHl => exact decode_oneByte rfl (fun _ _ => rfl) rest
  case dec x =>
    cases x with
    | reg r => cases r <;> exact decode_oneByte rfl (fun _ _ => rfl) rest
    | memHl => exact decode_oneByte rfl (fun _ _ => rfl) rest
  case addHl r => cases r <;> exact decode_oneByte rfl (fun _ _ => rfl) rest
  case incPair r => cases r <;> exact decode_oneByte rfl (fun _ _ => rfl) rest
  case decPair r => cases r <;> exact decode_oneByte rfl (fun _ _ => rfl) rest
  case retIf cc => cases cc <;> exact decode_oneByte rfl (fun _ _ => rfl) rest
  case rst t => fin_cases t <;> exact decode_oneByte rfl (fun _ _ => rfl) rest
  case illegal op => cases op <;> exact decode_oneByte rfl (fun _ _ => rfl) rest
  all_goals exact decode_oneByte rfl (fun _ _ => rfl) rest

/-- Settles O1: over the families, by the length of their instructions. -/
theorem decodeInvertsEncode : Obligations.DecodeInvertsEncode := fun i rest hw => by
  obtain ⟨f, hm⟩ := means_exists i
  exact decode_encode_of_means hm hw rest

/-- Settles O3: by evaluating the decoder on each word. -/
theorem specWordsDecode : Obligations.SpecWordsDecode :=
  ⟨rfl, rfl, rfl, rfl, rfl, rfl, rfl, rfl, rfl, rfl, rfl⟩

/-! ### The row of 0xCB alone (R151, R300) -/

/-- The instruction that a byte of the second table selects does what `cbPage` says of that byte. -/
theorem exec_decodeCb (b : Byte) (s : State) : exec (decodeCb b) s = .next (cbPage b s) := by
  unfold decodeCb cbPage
  generalize field2 b 6 = x
  fin_cases x
  · exact exec_of_means (.shift _ _) s
  · exact exec_of_means (.bit _ _) s
  · exact exec_of_means (.res _ _) s
  · exact exec_of_means (.set _ _) s

/-- Settles O23: the row of 0xCB alone means `cbPage` of the byte behind it, and so does that byte's own instruction. -/
theorem prefixRunsTheSecondTable : Obligations.PrefixRunsTheSecondTable := by
  refine ⟨fun b1 b2 => ⟨rfl, rfl⟩, fun s => ?_⟩
  have hexec : exec .prefixCb s = .next (cbPage (s.operandByte 0) s) := exec_of_means .prefixCb s
  refine ⟨hexec.trans (exec_decodeCb _ s).symm, ?_, _, hexec⟩
  unfold instrCycles
  rw [encode_decodeCb]
  rfl

/-! ### The illegal bytes (R152, R345) -/

/-- The bytes of R152 are those of the illegal instructions. -/
theorem exists_illegalByte_iff (b : Byte) : (∃ op : IllegalByte, op.byte = b) ↔ b ∈ illegalBytes := by
  constructor
  · rintro ⟨op, rfl⟩
    exact illegalByte_byte_mem op
  · intro h
    obtain ⟨op, -, hop⟩ := List.mem_map.mp
      (show b ∈ [IllegalByte.d3, .db, .dd, .e3, .e4, .eb, .ec, .ed, .f4, .fc, .fd].map IllegalByte.byte from h)
    exact ⟨op, hop⟩

/-- An illegal byte 0 decodes to its own instruction, whatever follows it. -/
theorem decodeBytes_illegal (op : IllegalByte) (b1 b2 : Byte) : decodeBytes op.byte b1 b2 = Instr.illegal op := by
  cases op <;> rfl

theorem raiseFatal_raisesFatal (kind : FatalKind) (op : Byte) (s : State) :
    RaisesFatal kind op s (s.raiseFatal kind s.pc op) := rfl

/-- A state about to execute reports what its instruction does. -/
theorem stepReport_of_aboutToExecute {s : State} (h : AboutToExecute s) : stepReport s = executeReport s := by
  obtain ⟨running, silent, undisturbed⟩ := h
  have hhost : hostPhase s = s := by unfold hostPhase; rw [silent]
  have hwake : s.wake = s := by unfold State.wake; rw [running]; simp
  unfold stepReport
  simp [hhost, hwake, running, undisturbed]

/-- An instruction that leads to FATAL is reported by its record. -/
theorem executeReport_of_fatal {s t : State} (h : exec s.fetchInstr s = .next t) (hf : t.ctl.runState = .fatal) :
    executeReport s = .fatal t.ctl.fatalRecord := by
  unfold executeReport
  rw [h]
  exact if_pos hf

/-- Settles O30: an illegal byte runs as `raiseFatal` at PC, after which nothing happens any more. -/
theorem illegalOpcodes : Obligations.IllegalOpcodes := by
  refine ⟨fun op s => ⟨?_, s.raiseFatal .invalidOpcode s.pc op.byte, exec_of_means (.illegal op) s,
    raiseFatal_raisesFatal _ _ s, fun n => State.afterExecute_of_fatal _ n rfl, step_of_fatal rfl⟩,
    exists_illegalByte_iff, fun s hs hb => ?_⟩
  · cases op <;> rfl
  · obtain ⟨op, hop⟩ := (exists_illegalByte_iff _).mpr hb
    have hfetch : s.fetchInstr = Instr.illegal op := by
      unfold State.fetchInstr
      rw [← hop, decodeBytes_illegal]
    have hexec : exec s.fetchInstr s = .next (s.raiseFatal .invalidOpcode s.pc op.byte) := by
      rw [hfetch]
      exact exec_of_means (.illegal op) s
    rw [stepReport_of_aboutToExecute hs, executeReport_of_fatal hexec rfl, ← hop]
    rfl

end Sys2Proof.Machine

/-!
# 8-bit loads: results, frames and completion

The statements about the loads and stores of one byte (40_load8.md), and the rules they rest on: when an instruction of a
family completes, and what the register write, the store and the step of HL after a fetch leave as they were.
-/

namespace Sys2Proof.Machine

/-! ### Completion of an instruction whose cycles are fixed (R154) -/

/-- The byte 0 of an instruction of the first table that takes `n` cycles in every state (R154). -/
abbrev FixedCycles (b : Byte) (n : Nat) : Prop :=
  b ≠ 0xCB ∧ cyclesNotTaken b = none ∧ firstTableCycles.getD b.toNat 0 = n

theorem instrCycles_of_fixedCycles {i : Instr} {b : Byte} {rest : List Byte} {n : Nat} (h : encode i = b :: rest)
    (hb : FixedCycles b n) (s : State) : instrCycles i s = n := by
  obtain ⟨hne, huncond, htable⟩ := hb
  exact (instrCycles_fixed s h hne huncond).trans htable

/-- An instruction of a family completes with what the family's function answers. -/
theorem completes_of_means {i : Instr} {f : State → State} {b : Byte} {rest : List Byte} {n : Nat}
    {post : State → State → Prop} (hm : Means i f) (henc : encode i = b :: rest) (hb : FixedCycles b n)
    (hpost : ∀ s, post s (f s)) : Completes i (b :: rest) (fun _ => n) post :=
  ⟨henc, fun s => ⟨instrCycles_of_fixedCycles henc hb s, f s, exec_of_means hm s, hpost s⟩⟩

/-! ### What a step of HL does (R211, R212, R217, R218) -/

/-- The address that an access through (HL+) or (HL-) leaves in HL (R211, R212, R217, R218). -/
def hlAfter : HlStep → Addr → Addr
  | .inc, a => a + 1
  | .dec, a => a - 1

namespace State

variable (s : State)

theorem stepHl_effect (m : HlStep) : s.stepHl m = s.setHl (hlAfter m s.hlAddr) := by
  cases m <;> rfl

@[simp] theorem setHl_hlAddr (v : Addr) : (s.setHl v).hlAddr = v := join16_hi8_lo8 v

theorem setHl_onlyRegs (v : Addr) : OnlyRegs [.h, .l] s (s.setHl v) := by
  intro r hr
  obtain ⟨hh, hl⟩ : r ≠ .h ∧ r ≠ .l := by simpa using hr
  rw [setHl_reg, if_neg hh, if_neg hl]

theorem setReg_onlyRegs (r : Reg8) (v : Byte) : OnlyRegs [r] s (s.setReg r v) := by
  intro x hx
  rw [setReg_reg, if_neg (by simpa using hx)]

end State

/-! ### Frames along a sequence of updates -/

/-- Registers written one update after another. -/
theorem OnlyRegs.trans {s t u : State} {xs ys : List Reg8} (h : OnlyRegs xs s t) (g : OnlyRegs ys t u) :
    OnlyRegs (xs ++ ys) s u := by
  intro r hr
  obtain ⟨hx, hy⟩ : r ∉ xs ∧ r ∉ ys := by simpa using hr
  exact (g r hy).trans (h r hx)

/-- Fetching an instruction writes no register. -/
theorem onlyRegs_fetched (s : State) (len : Nat) : OnlyRegs [] s (s.fetched len) := fun r _ => s.fetched_reg len r

/-- A store writes no register. -/
theorem onlyRegs_write (s : State) (a : Addr) (v : Byte) : OnlyRegs [] s (s.write a v) := fun r _ => s.write_reg a v r

/-- Fetching an instruction moves PC past it. -/
theorem advances_fetched (s : State) {len : Nat} (h : 0 < len) : Advances len s (s.fetched len) :=
  ⟨⟨rfl, rfl, rfl⟩, s.fetched_pc len h⟩

/-- An update that keeps the control state, the host's side and PC may follow. -/
theorem Advances.of_eq {len : Nat} {s t u : State} (h : Advances len s t) (hctl : u.ctl = t.ctl)
    (hparams : u.params = t.params) (hinput : u.input = t.input) (hpc : u.pc = t.pc) : Advances len s u :=
  ⟨⟨hctl.trans h.ctl, hparams.trans h.params, hinput.trans h.input⟩, hpc.trans h.pc⟩

theorem Advances.setReg {len : Nat} {s t : State} (h : Advances len s t) (r : Reg8) (v : Byte) :
    Advances len s (t.setReg r v) :=
  h.of_eq (t.setReg_ctl r v) (t.setReg_params r v) (t.setReg_input r v) (t.setReg_pc r v)

theorem Advances.write {len : Nat} {s t : State} (h : Advances len s t) (a : Addr) (v : Byte) :
    Advances len s (t.write a v) :=
  h.of_eq rfl rfl rfl rfl

theorem Advances.setHl {len : Nat} {s t : State} (h : Advances len s t) (v : Addr) : Advances len s (t.setHl v) :=
  h.of_eq rfl rfl rfl rfl

/-- A bus that differs by one write differs by a store. -/
theorem stores_of_bus {a : Addr} {v : Byte} {s t : State} (h : t.bus = s.bus.write a v) : Stores a v s t where
  bus := h
  frame hok x hx := (congrArg (Bus.read · x) h).trans (Bus.read_write_of_not_reached v hok hx)
  stored hok ha := (congrArg (Bus.read · a) h).trans (Bus.read_write_self v hok ha)

/-! ### Loads into a register (R200 to R202, R205, R206, R209, R211 to R213, R215) -/

/-- What the claims say of a load of `v` into `r` by an instruction of `len` bytes. -/
abbrev LoadsReg (r : Reg8) (v : Byte) (len : Nat) (s t : State) : Prop :=
  t.reg r = v ∧ OnlyRegs [r] s t ∧ t.sp = s.sp ∧ t.flags = s.flags ∧ t.bus = s.bus ∧ Advances len s t

/-- What the claims say of a load of A through HL that steps HL (R211, R212). -/
abbrev LoadsAThroughHl (m : HlStep) (s t : State) : Prop :=
  t.reg .a = s.read s.hlAddr ∧ t.hlAddr = hlAfter m s.hlAddr ∧ OnlyRegs [.a, .h, .l] s t ∧ t.sp = s.sp ∧
    t.flags = s.flags ∧ t.bus = s.bus ∧ Advances 1 s t

theorem setReg_fetched_loads (s : State) (r : Reg8) (v : Byte) {len : Nat} (h : 0 < len) :
    LoadsReg r v len s ((s.fetched len).setReg r v) := by
  refine ⟨by simp, ?_, by simp, by simp, by simp, (advances_fetched s h).setReg r v⟩
  exact (onlyRegs_fetched s len).trans ((s.fetched len).setReg_onlyRegs r v)

/-- A load into A, in the words that the claims about A use. -/
theorem setReg_fetched_writesA (s : State) (v : Byte) {len : Nat} (h : 0 < len) :
    WritesA v len s ((s.fetched len).setReg .a v) ∧ ((s.fetched len).setReg .a v).flags = s.flags := by
  obtain ⟨ha, hregs, hsp, hflags, hbus, hadv⟩ := setReg_fetched_loads s .a v h
  exact ⟨⟨hadv, ha, hregs, hsp, hbus⟩, hflags⟩

/-- The address is HL as it was: the register write stands before the step of HL. -/
theorem ldAHlStep_loads (m : HlStep) (s : State) : LoadsAThroughHl m s (ldAHlStep m s) := by
  obtain ⟨ha, hregs, hsp, hflags, hbus, hadv⟩ := setReg_fetched_loads s .a (s.read s.hlAddr) Nat.one_pos
  have hstep : ldAHlStep m s = ((s.fetched 1).setReg .a (s.read s.hlAddr)).setHl (hlAfter m s.hlAddr) :=
    State.stepHl_effect _ m
  rw [hstep]
  exact ⟨ha, State.setHl_hlAddr _ _, hregs.trans (State.setHl_onlyRegs _ _), hsp, hflags, hbus, hadv.setHl _⟩

/-- Settles O6: each is a register write after the fetch. -/
theorem registerLoads : Obligations.RegisterLoads := by
  refine ⟨fun dst r => completes_of_means (.ldRegReg dst r) ?_ ?_ fun s => setReg_fetched_loads s dst _ Nat.one_pos,
    fun r n => completes_of_means (.ldRegImm r n) ?_ ?_ fun s => setReg_fetched_loads s r n Nat.two_pos⟩
  · cases dst <;> cases r <;> rfl
  · cases dst <;> cases r <;> decide
  · cases r <;> rfl
  · cases r <;> decide

/-- Settles O7: each is a register write after the fetch, of the byte at an address formed before it. -/
theorem memoryLoads : Obligations.MemoryLoads := by
  refine ⟨fun r => completes_of_means (.ldRegMemHl r) ?_ ?_ fun s => setReg_fetched_loads s r _ Nat.one_pos,
    completes_of_means (.ldAPointer .bc) rfl (by decide) fun s => setReg_fetched_writesA s _ Nat.one_pos,
    completes_of_means (.ldAPointer .de) rfl (by decide) fun s => setReg_fetched_writesA s _ Nat.one_pos,
    fun nn => completes_of_means (.ldAMemNn nn) rfl (by decide) fun s => setReg_fetched_writesA s _ (Nat.succ_pos 2),
    completes_of_means .ldhAMemC rfl (by decide) fun s => setReg_fetched_writesA s _ Nat.one_pos,
    fun n => completes_of_means (.ldhAMemN n) rfl (by decide) fun s => setReg_fetched_writesA s _ Nat.two_pos,
    completes_of_means (.ldAHlStep .inc) rfl (by decide) (ldAHlStep_loads .inc),
    completes_of_means (.ldAHlStep .dec) rfl (by decide) (ldAHlStep_loads .dec)⟩
  · cases r <;> rfl
  · cases r <;> decide

/-! ### Stores of a byte (R203, R204, R207, R208, R210, R214, R216 to R218) -/

/-- What the claims say of a store of `v` to `a` by an instruction of `len` bytes. -/
abbrev StoresByte (a : Addr) (v : Byte) (len : Nat) (s t : State) : Prop :=
  Stores a v s t ∧ KeepsRegs s t ∧ Advances len s t

/-- What the claims say of a store of A through HL that steps HL (R217, R218). -/
abbrev StoresAThroughHl (m : HlStep) (s t : State) : Prop :=
  Stores s.hlAddr (s.reg .a) s t ∧ t.hlAddr = hlAfter m s.hlAddr ∧ OnlyRegs [.h, .l] s t ∧ t.sp = s.sp ∧
    t.flags = s.flags ∧ Advances 1 s t

theorem write_fetched_stores (s : State) (a : Addr) (v : Byte) {len : Nat} (h : 0 < len) :
    StoresByte a v len s ((s.fetched len).write a v) := by
  have hregs := (onlyRegs_fetched s len).trans (onlyRegs_write (s.fetched len) a v)
  exact ⟨stores_of_bus rfl, ⟨hregs, rfl, rfl⟩, (advances_fetched s h).write a v⟩

/-- The address is HL as it was: the store stands before the step of HL. -/
theorem ldHlStepA_stores (m : HlStep) (s : State) : StoresAThroughHl m s (ldHlStepA m s) := by
  obtain ⟨hstore, ⟨hregs, hflags, hsp⟩, hadv⟩ := write_fetched_stores s s.hlAddr (s.reg .a) Nat.one_pos
  have hstep : ldHlStepA m s = ((s.fetched 1).write s.hlAddr (s.reg .a)).setHl (hlAfter m s.hlAddr) :=
    State.stepHl_effect _ m
  rw [hstep]
  exact ⟨stores_of_bus hstore.bus, State.setHl_hlAddr _ _, hregs.trans (State.setHl_onlyRegs _ _), hsp, hflags,
    hadv.setHl _⟩

/-- Settles O8: each is one bus write after the fetch, at an address formed before it. -/
theorem byteStores : Obligations.ByteStores := by
  refine ⟨fun r => completes_of_means (.ldMemHlReg r) ?_ ?_ fun s => write_fetched_stores s _ _ Nat.one_pos,
    fun n => completes_of_means (.ldMemHlN n) rfl (by decide) fun s => write_fetched_stores s _ _ Nat.two_pos,
    completes_of_means (.ldPointerA .bc) rfl (by decide) fun s => write_fetched_stores s _ _ Nat.one_pos,
    completes_of_means (.ldPointerA .de) rfl (by decide) fun s => write_fetched_stores s _ _ Nat.one_pos,
    fun nn => completes_of_means (.ldMemNnA nn) rfl (by decide) fun s => write_fetched_stores s _ _ (Nat.succ_pos 2),
    completes_of_means .ldhMemCA rfl (by decide) fun s => write_fetched_stores s _ _ Nat.one_pos,
    fun n => completes_of_means (.ldhMemNA n) rfl (by decide) fun s => write_fetched_stores s _ _ Nat.two_pos,
    completes_of_means (.ldHlStepA .inc) rfl (by decide) (ldHlStepA_stores .inc),
    completes_of_means (.ldHlStepA .dec) rfl (by decide) (ldHlStepA_stores .dec)⟩
  · cases r <;> rfl
  · cases r <;> decide

end Sys2Proof.Machine

/-!
# 16-bit loads and the stack: results, frames and completion

The statements about the loads of a word and the stack (41_load16.md), and the rules they rest on: what writing a pair
leaves as it was, what two stores and a push are, and that a popped word is the pushed one where the stack stores bytes.
-/

namespace Sys2Proof.Machine

/-! ### Writing a pair (R12, R144, R145) -/

namespace State

variable (s : State)

@[simp] theorem setPair_params (r : Reg16) (v : Addr) : (s.setPair r v).params = s.params := by
  cases r <;> rfl

@[simp] theorem setPair_input (r : Reg16) (v : Addr) : (s.setPair r v).input = s.input := by
  cases r <;> rfl

@[simp] theorem setPair_pc (r : Reg16) (v : Addr) : (s.setPair r v).pc = s.pc := by
  cases r <;> rfl

@[simp] theorem setPair_flags (r : Reg16) (v : Addr) : (s.setPair r v).flags = s.flags := by
  cases r <;> rfl

@[simp] theorem setPair_pairValue (r : Reg16) (v : Addr) : (s.setPair r v).pairValue r = v := by
  cases r with
  | sp => rfl
  | bc | de | hl => exact join16_hi8_lo8 v

theorem setPair_onlyRegs (r : Reg16) (v : Addr) : OnlyRegs r.regs s (s.setPair r v) := by
  intro x hx
  cases r <;> simp_all [setPair, Reg16.regs]

@[simp] theorem setStackPair_params (r : StackReg) (v : Addr) : (s.setStackPair r v).params = s.params := by
  cases r <;> rfl

@[simp] theorem setStackPair_input (r : StackReg) (v : Addr) : (s.setStackPair r v).input = s.input := by
  cases r <;> rfl

@[simp] theorem setStackPair_pc (r : StackReg) (v : Addr) : (s.setStackPair r v).pc = s.pc := by
  cases r <;> rfl

@[simp] theorem setStackPair_sp (r : StackReg) (v : Addr) : (s.setStackPair r v).sp = s.sp := by
  cases r <;> rfl

theorem setAf_onlyRegs (v : Addr) : OnlyRegs [.a] s (s.setAf v) := by
  intro x hx
  rw [setAf_reg, if_neg (by simpa using hx)]

/-- A pair of the stack table, in the words of the claims. -/
theorem stackPair_eq (r : StackReg) : s.stackPair r = s.stackPairValue r := by
  cases r with
  | bc | de | hl => rfl
  | af => exact congrArg (s.reg .a ++ ·) s.flags.toByte_eq

/-- Writing back what a pair holds changes nothing; of AF, because F's bits 3:0 are zeros (R13, R14). -/
theorem setStackPair_stackPair (r : StackReg) : s.setStackPair r (s.stackPair r) = s := by
  cases r <;> simp [setStackPair, stackPair, setBc, setDe, setHl, setAf, bc, de, hl, af]

end State

theorem Advances.setPair {len : Nat} {s t : State} (h : Advances len s t) (r : Reg16) (v : Addr) :
    Advances len s (t.setPair r v) :=
  h.of_eq (t.setPair_ctl r v) (t.setPair_params r v) (t.setPair_input r v) (t.setPair_pc r v)

theorem Advances.setStackPair {len : Nat} {s t : State} (h : Advances len s t) (r : StackReg) (v : Addr) :
    Advances len s (t.setStackPair r v) :=
  h.of_eq (t.setStackPair_ctl r v) (t.setStackPair_params r v) (t.setStackPair_input r v) (t.setStackPair_pc r v)

theorem Advances.setSp {len : Nat} {s t : State} (h : Advances len s t) (v : Addr) : Advances len s (t.setSp v) :=
  h.of_eq rfl rfl rfl rfl

theorem Advances.setFlags {len : Nat} {s t : State} (h : Advances len s t) (f : Flags) : Advances len s (t.setFlags f) :=
  h.of_eq rfl rfl rfl rfl

/-- Writing SP writes no other register. -/
theorem onlyRegs_setSp (s : State) (v : Addr) : OnlyRegs [] s (s.setSp v) := fun r _ => s.setSp_reg v r

/-- Writing the flags writes no register. -/
theorem onlyRegs_setFlags (s : State) (f : Flags) : OnlyRegs [] s (s.setFlags f) := fun r _ => s.setFlags_reg f r

/-! ### Two stores and a push (R7, R74, R76) -/

/-- A bus that differs by two writes differs by two stores. -/
theorem storesTwo_of_bus {a c : Addr} {v w : Byte} {s t : State} (h : t.bus = (s.bus.write a v).write c w) :
    StoresTwo a v c w s t where
  bus := h
  frame hok x ha hc := calc
    t.bus.read x = ((s.bus.write a v).write c w).read x := by rw [h]
    _ = (s.bus.write a v).read x := Bus.read_write_of_not_reached w (Bus.write_memoriesOk a v hok) hc
    _ = s.bus.read x := Bus.read_write_of_not_reached v hok ha

/-- The fetch before a push does not matter to it (R7). -/
theorem push16_fetched_pushes (s : State) (len : Nat) (v : Addr) : Pushes v s ((s.fetched len).push16 v) := by
  rw [State.push16_effect]
  exact ⟨storesTwo_of_bus rfl, rfl, fun r _ => by cases r <;> rfl, rfl⟩

theorem Advances.push16 {len : Nat} {s t : State} (h : Advances len s t) (v : Addr) : Advances len s (t.push16 v) :=
  h.of_eq rfl rfl rfl rfl

/-! ### A popped word is the pushed one (R236, R237) -/

/-- Where the two bytes of the stack store bytes and differ, a pop reads the word that a push wrote. -/
theorem popValue_of_pushes {v : Addr} {s t : State} (h : Pushes v s t) (hok : s.bus.memoriesOk)
    (hhigh : s.bus.storesByte (s.sp - 1) = true) (hlow : (s.bus.write (s.sp - 1) (hi8 v)).storesByte (s.sp - 2) = true)
    (hne : (s.bus.write (s.sp - 1) (hi8 v)).reaches (s.sp - 2) (s.sp - 1) = false) : t.popValue = v := by
  have hok' := Bus.write_memoriesOk (s.sp - 1) (hi8 v) hok
  have hbus : t.bus = (s.bus.write (s.sp - 1) (hi8 v)).write (s.sp - 2) (lo8 v) := h.bus
  have hlo : t.bus.read (s.sp - 2) = lo8 v := hbus ▸ Bus.read_write_self _ hok' hlow
  have hhi : t.bus.read (s.sp - 1) = hi8 v := by
    rw [hbus, Bus.read_write_of_not_reached _ hok' hne, Bus.read_write_self _ hok hhigh]
  have hsp : s.sp - 2 + 1 = s.sp - 1 := by bv_omega
  rw [State.popValue, State.read, State.read, h.sp, hsp, hhi, hlo, join16_hi8_lo8]

/-- A pop of the word that the pair holds changes SP alone, after the fetch. -/
theorem popPair_of_popValue {r : StackReg} {s : State} (h : s.popValue = s.stackPair r) :
    popPair r s = (s.fetched 1).popped := by
  have hpair : s.stackPair r = (s.fetched 1).popped.stackPair r := by cases r <;> rfl
  rw [popPair, h, hpair, State.setStackPair_stackPair]

/-! ### The instructions (R230 to R233, R236, R237) -/

/-- What the claims say of a load of `v` into the pair `r` by an instruction of `len` bytes. -/
abbrev LoadsPair (r : Reg16) (v : Addr) (len : Nat) (s t : State) : Prop :=
  t.pairValue r = v ∧ OnlyRegs r.regs s t ∧ (r ≠ .sp → t.sp = s.sp) ∧ t.flags = s.flags ∧ t.bus = s.bus ∧ Advances len s t

theorem setPair_fetched_loads (s : State) (r : Reg16) (v : Addr) {len : Nat} (h : 0 < len) :
    LoadsPair r v len s ((s.fetched len).setPair r v) := by
  refine ⟨by simp, ?_, fun hr => State.setPair_sp _ v hr, by simp, by simp, (advances_fetched s h).setPair r v⟩
  exact (onlyRegs_fetched s len).trans ((s.fetched len).setPair_onlyRegs r v)

/-- What a pop does of every pair alike: SP two higher, the bus as it was, PC past the instruction (R237). -/
theorem popPair_frame (r : StackReg) (s : State) :
    (popPair r s).sp = s.sp + 2 ∧ (popPair r s).bus = s.bus ∧ Advances 1 s (popPair r s) := by
  have hadv : Advances 1 s (s.fetched 1).popped := (advances_fetched s Nat.one_pos).setSp (s.sp + 2)
  exact ⟨State.setStackPair_sp _ r _, State.setStackPair_bus _ r _, hadv.setStackPair r _⟩

/-- A pop writes no register before it writes its pair. -/
theorem onlyRegs_fetched_popped (s : State) : OnlyRegs [] s (s.fetched 1).popped :=
  (onlyRegs_fetched s 1).trans (onlyRegs_setSp (s.fetched 1) (s.sp + 2))

/-- Settles O9: each is a pair write after the fetch; LD HL,SP+e writes the flags too. -/
theorem pairLoads : Obligations.PairLoads := by
  refine ⟨fun r nn => completes_of_means (.ldPairImm r nn) ?_ ?_ fun s => setPair_fetched_loads s r nn (Nat.succ_pos 2),
    completes_of_means .ldSpHl rfl (by decide) fun s => ?_,
    fun e => completes_of_means (.ldHlSpE e) rfl (by decide) fun s => ?_⟩
  · cases r <;> rfl
  · cases r <;> decide
  · obtain ⟨hsp, hregs, -, hflags, hbus, hadv⟩ := setPair_fetched_loads s .sp s.hlAddr Nat.one_pos
    exact ⟨hsp, hregs, hflags, hbus, hadv⟩
  · obtain ⟨hhl, hregs, hsp, -, hbus, hadv⟩ := setPair_fetched_loads s .hl (s.sp + sext16 e) Nat.two_pos
    exact ⟨hhl, hregs.trans (onlyRegs_setFlags _ _), hsp (by decide), rfl, hbus, hadv.setFlags _⟩

/-- Settles O10: each is two bus writes after the fetch. -/
theorem wordStores : Obligations.WordStores := by
  refine ⟨fun nn => completes_of_means (.ldMemNnSp nn) rfl (by decide) fun s => ?_,
    fun r => completes_of_means (.push r) ?_ ?_ fun s => ?_⟩
  · have hregs := (onlyRegs_fetched s 3).trans ((onlyRegs_write _ nn (lo8 s.sp)).trans (onlyRegs_write _ (nn + 1) (hi8 s.sp)))
    exact ⟨storesTwo_of_bus rfl, ⟨hregs, rfl, rfl⟩, ((advances_fetched s (Nat.succ_pos 2)).write _ _).write _ _⟩
  · cases r <;> rfl
  · cases r <;> decide
  · rw [← s.stackPair_eq r]
    exact ⟨push16_fetched_pushes s 1 _, (advances_fetched s Nat.one_pos).push16 _⟩

/-- Settles O11: a pop is a pair write after the fetch and the step of SP; of AF, the flags are the byte's without bits 3:0. -/
theorem pops : Obligations.Pops := by
  refine fun r => completes_of_means (.pop r) ?_ ?_ fun s => ?_
  · cases r <;> rfl
  · cases r <;> decide
  · obtain ⟨hsp, hbus, hadv⟩ := popPair_frame r s
    refine ⟨hsp, hbus, hadv, ?_⟩
    have hregs := onlyRegs_fetched_popped s
    cases r with
    | bc => exact ⟨State.setPair_pairValue _ .bc _, hregs.trans (State.setPair_onlyRegs _ .bc _), rfl⟩
    | de => exact ⟨State.setPair_pairValue _ .de _, hregs.trans (State.setPair_onlyRegs _ .de _), rfl⟩
    | hl => exact ⟨State.setPair_pairValue _ .hl _, hregs.trans (State.setPair_onlyRegs _ .hl _), rfl⟩
    | af =>
      refine ⟨hi8_join16 _ _, hregs.trans (State.setAf_onlyRegs _ _), ?_⟩
      calc (popPair .af s).flags.byte = (Flags.ofByte (lo8 s.popValue)).toByte := (Flags.toByte_eq _).symm
        _ = s.read s.sp &&& 0xF0 := by rw [Flags.toByte_ofByte, State.popValue, lo8_join16]

/-- Settles O12: the pop reads the pushed word, which the pair still holds, so that it changes SP alone. -/
theorem popRestoresWhatPushSaved : Obligations.PopRestoresWhatPushSaved := by
  intro r s t u hok hhigh hlow hne ht hu
  rw [← s.stackPair_eq r] at hlow hne
  obtain rfl := next_of_means (.push r) ht
  obtain rfl := next_of_means (.pop r) hu
  have hpush : Pushes (s.stackPair r) s (pushPair r s) := push16_fetched_pushes s 1 _
  have hpop : (pushPair r s).popValue = s.stackPair r := popValue_of_pushes hpush hok hhigh hlow hne
  have hkept : (pushPair r s).stackPair r = s.stackPair r := by cases r <;> rfl
  rw [popPair_of_popValue (hpop.trans hkept.symm)]
  have hsp : s.sp - 2 + 2 = s.sp := by bv_omega
  refine ⟨?_, hsp, hpush.flags, hpush.regs.trans (onlyRegs_fetched_popped _)⟩
  cases r <;> rfl

end Sys2Proof.Machine

/-!
# 8-bit arithmetic and logic: results, flags, frames and completion

The statements about the accumulator operations and the steps of a byte (42_alu8.md), and the rules they rest on: the
results and flags of R250 on numbers, what writing A with the flags and writing an operand leave as they were, and which
instructions leave the flags alone.
-/

namespace Sys2Proof.Machine

/-! ### Results and flags on numbers (R250) -/

theorem bit01_eq_toNat (c : Bool) : bit01 c = c.toNat := by cases c <;> rfl

/-- A byte made from a number is zero where the number is a multiple of 256. -/
theorem ofNat_beq_zero (n : Nat) : (BitVec.ofNat 8 n == 0) = decide (n % 256 = 0) := by
  rw [beq_eq_decide, decide_eq_decide, BitVec.toNat_eq]
  rfl

/-- A byte made from an integer is zero where the integer is a multiple of 256. -/
theorem ofInt_beq_zero (i : Int) : (BitVec.ofInt 8 i == 0) = decide (i % 256 = 0) := by
  rw [beq_eq_decide, decide_eq_decide, BitVec.toNat_eq, BitVec.toNat_ofInt]
  show (i % 256).toNat = 0 ↔ _
  omega

/-- The difference of bytes is that of the integers, modulo 256. -/
theorem sub_sub_ofNat_eq_ofInt (a b : Byte) (c : Nat) :
    a - b - BitVec.ofNat 8 c = BitVec.ofInt 8 ((a.toNat : Int) - b.toNat - c) := by
  apply BitVec.eq_of_toNat_eq
  simp only [BitVec.toNat_sub, BitVec.toNat_ofInt, BitVec.toNat_ofNat]
  omega

/-- The words of the claims for a sum are those of `Add8`. -/
theorem addsToA_iff (v : Byte) (c : Bool) (len : Nat) (s t : State) :
    AddsToA v c.toNat len s t ↔
      WritesA (add8 (s.reg .a) v c).res len s t ∧ t.flags = (add8 (s.reg .a) v c).flags := by
  simp only [AddsToA, add8, bit01_eq_toNat, ofNat_beq_zero, nibble]

/-- The words of the claims for the flags of a difference are those of `Sub8`. -/
theorem subtractFlags_eq (s : State) (v : Byte) (c : Bool) :
    subtractFlags s v c.toNat = (sub8 (s.reg .a) v c).flags := by
  simp only [subtractFlags, sub8, bit01_eq_toNat, sub_sub_ofNat_eq_ofInt, ofInt_beq_zero, nibble]

/-- The words of the claims for a difference are those of `Sub8`. -/
theorem subtractsFromA_iff (v : Byte) (c : Bool) (len : Nat) (s t : State) :
    SubtractsFromA v c.toNat len s t ↔
      WritesA (sub8 (s.reg .a) v c).res len s t ∧ t.flags = (sub8 (s.reg .a) v c).flags := by
  rw [SubtractsFromA, subtractFlags_eq, ← sub_sub_ofNat_eq_ofInt, ← bit01_eq_toNat]
  rfl

/-- `Inc8` on numbers: Z where the byte was 0xFF. -/
theorem inc8_eq (v : Byte) (c : Bool) :
    inc8 v c = ⟨BitVec.ofNat 8 (v.toNat + 1), decide (v = 0xFF), false, decide (v.toNat % 16 = 0xF), c⟩ := by
  have hres : v + 1 = BitVec.ofNat 8 (v.toNat + 1) := by bv_omega
  have hz : v + 1 = 0 ↔ v = 0xFF := by bv_omega
  simp only [inc8, beq_eq_decide, hz, nibble]
  rw [hres]

/-- `Dec8` on numbers: Z where the byte was 1. -/
theorem dec8_eq (v : Byte) (c : Bool) :
    dec8 v c = ⟨BitVec.ofNat 8 (v.toNat + 255), decide (v = 0x01), true, decide (v.toNat % 16 = 0x0), c⟩ := by
  have hres : v - 1 = BitVec.ofNat 8 (v.toNat + 255) := by bv_omega
  have hz : v - 1 = 0 ↔ v = 0x01 := by bv_omega
  simp only [dec8, beq_eq_decide, hz, nibble]
  rw [hres]

/-! ### Operands (R143) -/

namespace State

variable (s : State)

/-- An operand's value, in the words of the claims. -/
theorem readOperand_eq (x : Operand8) : s.readOperand x = s.operandValue x := by
  cases x <;> rfl

@[simp] theorem writeOperand_flags (x : Operand8) (v : Byte) : (s.writeOperand x v).flags = s.flags := by
  cases x <;> simp

@[simp] theorem writeOperand_pc (x : Operand8) (v : Byte) : (s.writeOperand x v).pc = s.pc := by
  cases x <;> simp

@[simp] theorem stepHl_flags (m : HlStep) : (s.stepHl m).flags = s.flags := by
  cases m <;> rfl

/-- Writing a pair of the stack table keeps the flags, but for AF. -/
theorem setStackPair_flags {r : StackReg} (v : Addr) (h : r ≠ .af) : (s.setStackPair r v).flags = s.flags := by
  cases r
  case af => exact absurd rfl h
  all_goals rfl

end State

theorem Advances.writeOperand {len : Nat} {s t : State} (h : Advances len s t) (x : Operand8) (v : Byte) :
    Advances len s (t.writeOperand x v) :=
  have ⟨hctl, hparams, hinput⟩ := writeOperand_ctl t x v
  h.of_eq hctl hparams hinput (t.writeOperand_pc x v)

/-- The fetch before the write of an operand does not matter to it. -/
theorem writesOperand_fetched (s : State) (len : Nat) (x : Operand8) (v : Byte) :
    WritesOperand x v s ((s.fetched len).writeOperand x v) := by
  have hfetch := onlyRegs_fetched s len
  refine ⟨(s.fetched len).writeOperand_sp x v, ?_⟩
  cases x with
  | reg r => exact ⟨by simp, hfetch.trans ((s.fetched len).setReg_onlyRegs r v), by simp⟩
  | memHl => exact ⟨stores_of_bus rfl, hfetch.trans (onlyRegs_write _ _ v)⟩

/-- Writing the flags may follow the write of an operand. -/
theorem WritesOperand.setFlags {x : Operand8} {v : Byte} {s t : State} (h : WritesOperand x v s t) (f : Flags) :
    WritesOperand x v s (t.setFlags f) := by
  obtain ⟨hsp, hx⟩ := h
  refine ⟨hsp, ?_⟩
  cases x with
  | reg r =>
    obtain ⟨hr, hregs, hbus⟩ := hx
    exact ⟨hr, hregs.trans (onlyRegs_setFlags t f), hbus⟩
  | memHl =>
    obtain ⟨hstore, hregs⟩ := hx
    exact ⟨stores_of_bus hstore.bus, hregs.trans (onlyRegs_setFlags t f)⟩

/-- An operand and the flags have what `r` says; the rest is as the claims about operands say. -/
abbrev UpdatesOperand (x : Operand8) (r : AluResult) (len : Nat) (s t : State) : Prop :=
  WritesOperand x r.res s t ∧ Advances len s t ∧ t.flags = r.flags

theorem writeOperand_setFlags_fetched (s : State) (x : Operand8) (r : AluResult) {len : Nat} (h : 0 < len) :
    UpdatesOperand x r len s (((s.fetched len).writeOperand x r.res).setFlags r.flags) :=
  ⟨(writesOperand_fetched s len x r.res).setFlags _, ((advances_fetched s h).writeOperand x r.res).setFlags _, rfl⟩

/-! ### The accumulator operations (R251 to R274) -/

/-- A and the flags have what `r` says; the rest is as the claims about A say. -/
abbrev Accumulates (r : AluResult) (len : Nat) (s t : State) : Prop := WritesA r.res len s t ∧ t.flags = r.flags

theorem setAccumulator_fetched (s : State) (r : AluResult) {len : Nat} (h : 0 < len) :
    Accumulates r len s ((s.fetched len).setAccumulator r) := by
  obtain ⟨⟨hadv, ha, hregs, hsp, hbus⟩, -⟩ := setReg_fetched_writesA s r.res h
  exact ⟨⟨hadv.setFlags _, ha, hregs.trans (onlyRegs_setFlags _ _), hsp, hbus⟩, rfl⟩

/-- An accumulator operation on an operand completes with what `alu8` answers on the operand's value (R147). -/
theorem alu_completes (op : AluOp) (x : Operand8) {post : State → State → Prop}
    (h : ∀ s t, Accumulates (alu8 op (s.reg .a) (s.operandValue x) s.flags.c) 1 s t → post s t) :
    Completes (Instr.alu op x) [0b10#2 ++ op.code ++ x.code] (fun _ => if x = .memHl then 8 else 4) post := by
  refine completes_of_means (.alu op x) ?_ ?_ fun s => h s _ ?_
  · cases x with
    | reg r => cases op <;> cases r <;> rfl
    | memHl => cases op <;> rfl
  · cases x with
    | reg r => cases op <;> cases r <;> decide
    | memHl => cases op <;> decide
  · rw [← s.readOperand_eq x]
    exact setAccumulator_fetched s _ Nat.one_pos

/-- An accumulator operation on an immediate completes with what `alu8` answers on it (R147). -/
theorem aluImm_completes (op : AluOp) (n : Byte) {post : State → State → Prop}
    (h : ∀ s t, Accumulates (alu8 op (s.reg .a) n s.flags.c) 2 s t → post s t) :
    Completes (Instr.aluImm op n) [0b11#2 ++ op.code ++ 0b110#3, n] (fun _ => 8) post := by
  refine completes_of_means (.aluImm op n) ?_ ?_ fun s => h s _ (setAccumulator_fetched s _ Nat.two_pos)
  · cases op <;> rfl
  · cases op <;> decide

/-- Settles O13: each is the accumulator operation whose result is `Add8`, of the carry flag or of none. -/
theorem additions : Obligations.Additions :=
  ⟨fun x => alu_completes .add x fun s t => (addsToA_iff _ false 1 s t).mpr,
    fun n => aluImm_completes .add n fun s t => (addsToA_iff n false 2 s t).mpr,
    fun x => alu_completes .adc x fun s t => (addsToA_iff _ s.flags.c 1 s t).mpr,
    fun n => aluImm_completes .adc n fun s t => (addsToA_iff n s.flags.c 2 s t).mpr⟩

/-- Settles O14: each is the accumulator operation whose result is `Sub8`; CP has its flags and the old A. -/
theorem subtractions : Obligations.Subtractions :=
  ⟨fun x => alu_completes .sub x fun s t => (subtractsFromA_iff _ false 1 s t).mpr,
    fun n => aluImm_completes .sub n fun s t => (subtractsFromA_iff n false 2 s t).mpr,
    fun x => alu_completes .sbc x fun s t => (subtractsFromA_iff _ s.flags.c 1 s t).mpr,
    fun n => aluImm_completes .sbc n fun s t => (subtractsFromA_iff n s.flags.c 2 s t).mpr,
    fun x => alu_completes .cp x fun s _ => And.imp_right (·.trans (subtractFlags_eq s _ false).symm),
    fun n => aluImm_completes .cp n fun s _ => And.imp_right (·.trans (subtractFlags_eq s n false).symm)⟩

/-- Settles O15: each is the accumulator operation whose result is `And8`, `Xor8` or `Or8`. -/
theorem logicOperations : Obligations.LogicOperations :=
  ⟨fun x => alu_completes .and x fun _ _ => id, fun n => aluImm_completes .and n fun _ _ => id,
    fun x => alu_completes .xor x fun _ _ => id, fun n => aluImm_completes .xor n fun _ _ => id,
    fun x => alu_completes .or x fun _ _ => id, fun n => aluImm_completes .or n fun _ _ => id⟩

/-! ### INC and DEC of a byte (R275 to R278) -/

theorem incOperand_updates (x : Operand8) (s : State) :
    UpdatesOperand x (inc8 (s.operandValue x) s.flags.c) 1 s (incOperand x s) := by
  rw [← s.readOperand_eq x]
  exact writeOperand_setFlags_fetched s x _ Nat.one_pos

theorem decOperand_updates (x : Operand8) (s : State) :
    UpdatesOperand x (dec8 (s.operandValue x) s.flags.c) 1 s (decOperand x s) := by
  rw [← s.readOperand_eq x]
  exact writeOperand_setFlags_fetched s x _ Nat.one_pos

/-- Settles O16: each writes the operand and the flags after the fetch, and its result is `Inc8` or `Dec8`. -/
theorem byteSteps : Obligations.ByteSteps := by
  refine ⟨fun x => completes_of_means (.inc x) ?_ ?_ fun s => ?_, fun x => completes_of_means (.dec x) ?_ ?_ fun s => ?_⟩
  · cases x with
    | reg r => cases r <;> rfl
    | memHl => rfl
  · cases x with
    | reg r => cases r <;> decide
    | memHl => decide
  · have h := incOperand_updates x s
    rwa [inc8_eq] at h
  · cases x with
    | reg r => cases r <;> rfl
    | memHl => rfl
  · cases x with
    | reg r => cases r <;> decide
    | memHl => decide
  · have h := decOperand_updates x s
    rwa [dec8_eq] at h

/-! ### Which instructions leave the flags alone (R279) -/

/-- Every instruction but those of R279 keeps the flags. -/
theorem means_flags {i : Instr} {f : State → State} (h : Means i f) (hi : ¬ WritesFlag i) (s : State) :
    (f s).flags = s.flags := by
  cases h
  case alu op x => exact absurd (.alu op x) hi
  case aluImm op n => exact absurd (.aluImm op n) hi
  case inc x => exact absurd (.inc x) hi
  case dec x => exact absurd (.dec x) hi
  case addHl r => exact absurd (.addHl r) hi
  case addSpE e => exact absurd (.addSpE e) hi
  case ldHlSpE e => exact absurd (.ldHlSpE e) hi
  case rlca => exact absurd .rlca hi
  case rrca => exact absurd .rrca hi
  case rla => exact absurd .rla hi
  case rra => exact absurd .rra hi
  case daa => exact absurd .daa hi
  case cpl => exact absurd .cpl hi
  case scf => exact absurd .scf hi
  case ccf => exact absurd .ccf hi
  case shift op x => exact absurd (.shift op x) hi
  case bit b x => exact absurd (.bit b x) hi
  case prefixCb => exact absurd .prefixCb hi
  case pop r => exact (s.fetched 1).popped.setStackPair_flags _ (fun hr => hi (hr ▸ .popAf))
  case ldRegReg x y => exact (s.fetched 1).setReg_flags x _
  case ldRegImm r n => exact (s.fetched 2).setReg_flags r n
  case ldRegMemHl r => exact (s.fetched 1).setReg_flags r _
  case ldAHlStep m => exact State.stepHl_flags _ m
  case ldHlStepA m => exact State.stepHl_flags _ m
  case ldPairImm r nn => exact (s.fetched 3).setPair_flags r nn
  case incPair r => exact (s.fetched 1).setPair_flags r _
  case decPair r => exact (s.fetched 1).setPair_flags r _
  case res b x => exact (s.fetched 2).writeOperand_flags x _
  case set b x => exact (s.fetched 2).writeOperand_flags x _
  case jpIf cc nn => unfold jumpAbsIf; split <;> rfl
  case jrIf cc e => unfold jumpRelIf; split <;> rfl
  case callIf cc nn => unfold callAbsIf; split <;> rfl
  case retIf cc => unfold retIf; split <;> rfl
  case halt => unfold haltCpu; dsimp only; split <;> rfl
  case stop n => unfold stopCpu; split <;> rfl
  all_goals rfl

/-- Settles O32: over the families. -/
theorem onlyListedInstructionsWriteFlags : Obligations.OnlyListedInstructionsWriteFlags := by
  intro i s t ht hi
  obtain ⟨f, hm⟩ := means_exists i
  obtain rfl := next_of_means hm ht
  exact means_flags hm hi s

end Sys2Proof.Machine

/-!
# 16-bit arithmetic: results, flags, frames and completion

The statement about ADD HL,rr, INC rr, DEC rr and ADD SP,e (43_alu16.md). Each is a pair write after the fetch
(`setPair_fetched_loads`), which the two additions follow by a write of the flags.
-/

namespace Sys2Proof.Machine

/-- A pair, in the words of the claims (R144). -/
theorem State.pair_eq (s : State) (r : Reg16) : s.pair r = s.pairValue r := by
  cases r <;> rfl

/-- One less is 65535 more, modulo 65536 (R282). -/
theorem sub_one_eq_ofNat (a : Addr) : a - 1 = BitVec.ofNat 16 (a.toNat + 65535) := by
  bv_omega

/-- Settles O17: each is a pair write after the fetch; ADD HL,rr and ADD SP,e write the flags too. -/
theorem wordArithmetic : Obligations.WordArithmetic := by
  refine ⟨fun r => completes_of_means (.addHl r) ?_ ?_ fun s => ?_,
    fun r => completes_of_means (.incPair r) ?_ ?_ fun s => ?_,
    fun r => completes_of_means (.decPair r) ?_ ?_ fun s => ?_,
    fun e => completes_of_means (.addSpE e) rfl (by decide) fun s => ?_⟩
  · cases r <;> rfl
  · cases r <;> decide
  · obtain ⟨hhl, hregs, hsp, -, hbus, hadv⟩ := setPair_fetched_loads s .hl (s.hl + s.pair r) Nat.one_pos
    rw [← s.pair_eq r]
    exact ⟨hhl.trans (BitVec.add_def _ _), hregs.trans (onlyRegs_setFlags _ _), hsp (by decide), rfl, hbus,
      hadv.setFlags _⟩
  · cases r <;> rfl
  · cases r <;> decide
  · have hsum : s.pair r + 1 = BitVec.ofNat 16 ((s.pair r).toNat + 1) := BitVec.add_def _ _
    rw [← s.pair_eq r, ← hsum]
    exact setPair_fetched_loads s r _ Nat.one_pos
  · cases r <;> rfl
  · cases r <;> decide
  · rw [← s.pair_eq r, ← sub_one_eq_ofNat]
    exact setPair_fetched_loads s r _ Nat.one_pos
  · obtain ⟨hsp, hregs, -, -, hbus, hadv⟩ := setPair_fetched_loads s .sp (s.sp + sext16 e) Nat.two_pos
    exact ⟨hsp, hregs.trans (onlyRegs_setFlags _ _), rfl, hbus, hadv.setFlags _⟩

end Sys2Proof.Machine

/-!
# Accumulator rotates, DAA, CPL, SCF, CCF: results, flags, frames and completion

The statements about the one-byte operations on A and the flags (44_rotate_misc.md), and the facts they rest on: rotates and
shifts on numbers, DAA's corrections on numbers, and which digits an addition of packed decimals leaves to be corrected.
-/

namespace Sys2Proof.Machine

/-! ### Rotates and shifts on numbers (R148, R290 to R293, R301 to R308) -/

/-- A rotate or shift of a byte's number gives a byte's number. -/
theorem shiftedNat_lt (op : ShiftOp) {v carry : Nat} (hv : v < 256) (hcarry : carry < 2) : shiftedNat op v carry < 256 := by
  cases op
  all_goals
    simp only [shiftedNat]
    omega

/-- A rotated or shifted byte, in the words of the claims. -/
theorem shiftValue_fst (op : ShiftOp) (v : Byte) (carry : Bool) :
    (shiftValue op v carry).1 = BitVec.ofNat 8 (shiftedNat op v.toNat carry.toNat) := by
  apply BitVec.eq_of_toNat_eq
  have hv := v.isLt
  rw [BitVec.toNat_ofNat, Nat.mod_eq_of_lt (shiftedNat_lt op hv carry.toNat_lt)]
  cases op
  all_goals
    simp only [shiftValue, shiftedNat, toNat_append_eq_add, BitVec.extractLsb'_toNat, Nat.shiftRight_eq_div_pow,
      BitVec.toNat_ofBool, BitVec.ofNat_eq_ofNat, BitVec.toNat_ofNat, Nat.reducePow, Nat.div_one]
    omega

/-- In a byte made from a number, a summand counts modulo 256. -/
theorem ofNat_mod_add (m n : Nat) : BitVec.ofNat 8 (m % 256 + n) = BitVec.ofNat 8 (m + n) :=
  BitVec.eq_of_toNat_eq (Nat.mod_add_mod m 256 n)

/-! ### Operations of one byte on A and the flags -/

/-- Writing A and the flags after the fetch, with the result in another form. -/
theorem accumulates_of_eq (s : State) {r q : AluResult} (h : r = q) :
    Accumulates q 1 s ((s.fetched 1).setAccumulator r) :=
  h ▸ setAccumulator_fetched s r Nat.one_pos

/-- A rotate of A, with its value as any number that is the page's modulo 256 (R290 to R293). -/
theorem rotateA_accumulates (op : ShiftOp) (s : State) {n : Nat}
    (h : BitVec.ofNat 8 (shiftedNat op (s.reg .a).toNat s.flags.c.toNat) = BitVec.ofNat 8 n) :
    Accumulates ⟨BitVec.ofNat 8 n, false, false, false, (shiftValue op (s.reg .a) s.flags.c).2⟩ 1 s (rotateA op s) :=
  accumulates_of_eq s (by rw [rotateA8, shiftValue_fst, h])

/-- An instruction that writes the flags alone, in the words of the claims about A. -/
theorem setFlags_fetched_writesA (s : State) (f : Flags) {len : Nat} (h : 0 < len) :
    WritesA (s.reg .a) len s ((s.fetched len).setFlags f) :=
  ⟨(advances_fetched s h).setFlags f, s.fetched_reg len .a, fun r _ => s.fetched_reg len r, rfl, rfl⟩

/-- The complement of a byte is what it lacks to 255 (R295). -/
theorem not_eq_ofNat (v : Byte) : ~~~v = BitVec.ofNat 8 (255 - v.toNat) := by
  bv_omega

/-- Settles O18: the rotates are the page's on A, but for Z; CPL writes A with the flags, SCF and CCF the flags alone. -/
theorem accumulatorRotatesAndFlagOperations : Obligations.AccumulatorRotatesAndFlagOperations :=
  ⟨completes_of_means .rlca rfl (by decide) fun s => rotateA_accumulates .rlc s (ofNat_mod_add _ _),
    completes_of_means .rrca rfl (by decide) fun s => rotateA_accumulates .rrc s rfl,
    completes_of_means .rla rfl (by decide) fun s => rotateA_accumulates .rl s (ofNat_mod_add _ _),
    completes_of_means .rra rfl (by decide) fun s => rotateA_accumulates .rr s rfl,
    completes_of_means .cpl rfl (by decide) fun s => accumulates_of_eq s (congrArg (AluResult.mk · _) (not_eq_ofNat _)),
    completes_of_means .scf rfl (by decide) fun s => ⟨setFlags_fetched_writesA s _ Nat.one_pos, rfl⟩,
    completes_of_means .ccf rfl (by decide) fun s => ⟨setFlags_fetched_writesA s _ Nat.one_pos, rfl⟩⟩

/-! ### DAA on numbers (R294) -/

/-- DAA's correction of the low digit. -/
def daaLow (a : Nat) (f : Flags) : Nat := if f.h = true ∨ (f.n = false ∧ a % 16 > 9) then 0x06 else 0

/-- DAA's correction of the high digit. -/
def daaHigh (a : Nat) (f : Flags) : Nat := if f.c = true ∨ (f.n = false ∧ a > 0x99) then 0x60 else 0

/-- The two corrections share no bit, so that joining them is adding them. -/
theorem corrections_or_eq_add (p q : Prop) [Decidable p] [Decidable q] :
    (if p then 0x06#8 else 0x00#8) ||| (if q then 0x60#8 else 0x00#8) =
      BitVec.ofNat 8 ((if p then 0x06 else 0) + (if q then 0x60 else 0)) := by
  by_cases hp : p <;> by_cases hq : q <;> simp [hp, hq]

theorem daaAdjust_eq (a : Byte) (f : Flags) : daaAdjust a f = BitVec.ofNat 8 (daaLow a.toNat f + daaHigh a.toNat f) := by
  cases hn : f.n <;> simp [daaAdjust, daaLow, daaHigh, nibble, hn, corrections_or_eq_add]

/-- DAA's result, in the words of the claims. -/
theorem daa8_res (a : Byte) (f : Flags) :
    (daa8 a f).res = if f.n = true then BitVec.ofNat 8 (a.toNat + 256 - (daaLow a.toNat f + daaHigh a.toNat f))
      else BitVec.ofNat 8 (a.toNat + (daaLow a.toNat f + daaHigh a.toNat f)) := by
  have hlow : daaLow a.toNat f ≤ 0x06 := by unfold daaLow; split <;> decide
  have hhigh : daaHigh a.toNat f ≤ 0x60 := by unfold daaHigh; split <;> decide
  simp only [daa8, daaAdjust_eq]
  split <;> bv_omega

theorem decimalAdjust_accumulates (s : State) : Accumulates (daa8 (s.reg .a) s.flags) 1 s (decimalAdjust s) :=
  setAccumulator_fetched s _ Nat.one_pos

/-- Settles O19: DAA writes A and the flags as `daa8` says; its corrections are the claim's. -/
theorem decimalAdjust_completes : Obligations.DecimalAdjust := by
  refine completes_of_means .daa rfl (by decide) fun s => ?_
  obtain ⟨hw, hflags⟩ := decimalAdjust_accumulates s
  have hz : ((daa8 (s.reg .a) s.flags).res == 0) = decide ((decimalAdjust s).reg .a = 0) := by rw [hw.a, beq_eq_decide]
  exact ⟨daa8_res (s.reg .a) s.flags ▸ hw, hz ▸ hflags⟩

/-! ### DAA after an addition of packed decimals (R250, R294) -/

/-- Why DAA corrects: a digit that passes 9 is six short of carrying into the next four bits. -/
theorem corrected_sum_eq_digits {tens ones : Nat} (ht : tens < 19) (ho : ones < 20) :
    BitVec.ofNat 8 (16 * tens + ones + ((if ones > 9 then 0x06 else 0) + (if 10 * tens + ones > 99 then 0x60 else 0))) =
      BitVec.ofNat 8 (16 * ((10 * tens + ones) / 10 % 10) + (10 * tens + ones) % 10) := by
  apply BitVec.eq_of_toNat_eq
  simp only [BitVec.toNat_ofNat]
  split <;> split
  all_goals omega

section

variable {a b : Byte} {x1 x0 y1 y0 : Nat} (ha : a.toNat = 16 * x1 + x0) (hb : b.toNat = 16 * y1 + y0) (c : Bool)
  (hx0 : x0 < 10) (hy0 : y0 < 10)

include ha hb

theorem add8_res_toNat : (add8 a b c).res.toNat = (16 * (x1 + y1) + (x0 + y0 + c.toNat)) % 256 := by
  simp only [add8, bit01_eq_toNat, BitVec.toNat_ofNat, ha, hb]
  congr 1
  omega

include hx0 hy0

/-- DAA corrects the low digit where the sum of the low digits passes 9. -/
theorem daaLow_add8 :
    daaLow (add8 a b c).res.toNat (add8 a b c).flags = if x0 + y0 + c.toNat > 9 then 0x06 else 0 := by
  have hc := c.toNat_lt
  rw [add8_res_toNat ha hb]
  refine if_congr ?_ rfl rfl
  simp only [add8, nibble, bit01_eq_toNat, ha, hb, decide_eq_true_eq, true_and]
  omega

/-- The sum carries, or passes 0x99, where the decimal sum passes 99. -/
theorem add8_passes_99_iff :
    (add8 a b c).flags.c = true ∨ (add8 a b c).res.toNat > 0x99 ↔ 10 * (x1 + y1) + (x0 + y0 + c.toNat) > 99 := by
  have hc := c.toNat_lt
  rw [add8_res_toNat ha hb]
  simp only [add8, bit01_eq_toNat, ha, hb, decide_eq_true_eq]
  omega

/-- DAA turns the binary sum of two packed decimals into their decimal sum. -/
theorem daa8_add8 (hx1 : x1 < 10) (hy1 : y1 < 10) :
    let r := add8 a b c
    let sum := 10 * (x1 + y1) + (x0 + y0 + c.toNat)
    (daa8 r.res r.flags).res = BitVec.ofNat 8 (16 * (sum / 10 % 10) + sum % 10) ∧
      (daa8 r.res r.flags).flags.c = decide (sum > 99) := by
  intro r sum
  have hc := c.toNat_lt
  have hn : r.flags.n = false := rfl
  have hpasses : r.flags.c = true ∨ r.res.toNat > 0x99 ↔ sum > 99 := add8_passes_99_iff ha hb c hx0 hy0
  have hhigh : daaHigh r.res.toNat r.flags = if sum > 99 then 0x60 else 0 :=
    if_congr (by simpa [hn] using hpasses) rfl rfl
  constructor
  · rw [daa8_res, daaLow_add8 ha hb c hx0 hy0, hhigh, if_neg (by simp [hn]), add8_res_toNat ha hb, ofNat_mod_add]
    exact corrected_sum_eq_digits (by omega) (by omega)
  · simp [daa8, hn, ← hpasses]

end

/-- What an accumulator operation on `y`, an operand's value or an immediate, leaves in A and the flags (R147). -/
theorem exec_alu_next {op : AluOp} {i : Instr} {s t : State} {y : Byte}
    (hi : i = Instr.aluImm op y ∨ ∃ x : Operand8, i = Instr.alu op x ∧ s.operandValue x = y) (ht : exec i s = .next t) :
    t.reg .a = (alu8 op (s.reg .a) y s.flags.c).res ∧ t.flags = (alu8 op (s.reg .a) y s.flags.c).flags := by
  obtain rfl | ⟨x, rfl, rfl⟩ := hi
  · obtain rfl := next_of_means (.aluImm op y) ht
    exact (setAccumulator_fetched s _ Nat.two_pos).imp_left (·.a)
  · obtain rfl := next_of_means (.alu op x) ht
    rw [← s.readOperand_eq x]
    exact (setAccumulator_fetched s _ Nat.one_pos).imp_left (·.a)

/-- ADD and ADC are `Add8`, of no carry or of the carry flag (R251, R254). -/
theorem alu8_addition {op : AluOp} (hop : op = .add ∨ op = .adc) (a v : Byte) (carry : Bool) :
    ∃ c : Bool, alu8 op a v carry = add8 a v c ∧ (if op = .adc then carry.toNat else 0) = c.toNat := by
  obtain rfl | rfl := hop
  · exact ⟨false, rfl, rfl⟩
  · exact ⟨carry, rfl, rfl⟩

/-- Settles O20: the addition leaves `Add8` in A and the flags, from which DAA makes the decimal sum. -/
theorem decimalAdjustAfterAdditionIsDecimal : Obligations.DecimalAdjustAfterAdditionIsDecimal := by
  intro op i s t u y x1 x0 y1 y0 hop hi hx1 hx0 hy1 hy0 hx hy ht hu sum
  obtain ⟨c, hadd, hc⟩ := alu8_addition hop (s.reg .a) y s.flags.c
  obtain ⟨hta, htf⟩ := exec_alu_next hi ht
  obtain rfl := next_of_means .daa hu
  obtain ⟨hw, huf⟩ := decimalAdjust_accumulates t
  have ha : (s.reg .a).toNat = 16 * x1 + x0 := by rw [hx, BitVec.toNat_ofNat]; omega
  have hb : y.toNat = 16 * y1 + y0 := by rw [hy, BitVec.toNat_ofNat]; omega
  have hsum : sum = 10 * (x1 + y1) + (x0 + y0 + c.toNat) := by simp only [sum, hc]; omega
  rw [hw.a, huf, hta, htf, hadd, hsum]
  exact daa8_add8 ha hb c hx0 hy0 hx1 hy1

end Sys2Proof.Machine

/-!
# The 0xCB page: results, flags, frames and completion

The statements about the instructions of the second table (45_cb_prefixed.md), and the facts they rest on: the encoding and
the cycles that all of them share, the flags of the rotates and shifts on numbers, and what a write of an operand after the
fetch leaves as it was.
-/

namespace Sys2Proof.Machine

/-! ### Completion of an instruction of the second table (R142, R151, R154) -/

/-- An operand's code is 6 for the byte at HL alone (R143). -/
theorem operand8_code_toNat_eq_six_iff (x : Operand8) : x.code.toNat = 6 ↔ x = .memHl := by
  cases x with
  | reg r => cases r <;> decide
  | memHl => decide

/-- The cycles of the second table, by the quarter `q` and the operand: only the byte at HL costs more, and least in BIT,
which does not write it. -/
theorem instrCycles_of_pageFields {i : Instr} {q : BitVec 2} {y : BitVec 3} {x : Operand8}
    (h : encode i = [0xCB, q ++ y ++ x.code]) (s : State) :
    instrCycles i s = if x = .memHl then (if q = 1#2 then 12 else 16) else 8 := by
  have hnum : (q ++ y ++ x.code).toNat = (q.toNat * 8 + y.toNat) * 8 + x.code.toNat := by
    simp only [toNat_append_eq_add, Nat.reducePow]
  have hy := y.isLt
  have hx := x.code.isLt
  have hoperand : (q ++ y ++ x.code).toNat % 8 = 6 ↔ x = .memHl := by
    rw [← operand8_code_toNat_eq_six_iff]
    omega
  have hquarter : (q ++ y ++ x.code).toNat / 64 = 1 ↔ q = 1#2 := by
    rw [BitVec.toNat_eq, BitVec.toNat_ofNat]
    omega
  rw [instrCycles_page s h]
  simp only [hoperand, hquarter]

/-- An instruction of the second table completes with what its family's function answers. -/
theorem page_completes {i : Instr} {f : State → State} {q : BitVec 2} {y : BitVec 3} {x : Operand8}
    {post : State → State → Prop} (hm : Means i f) (hdec : decodeCb (q ++ y ++ x.code) = i) (hpost : ∀ s, post s (f s)) :
    Completes i [0xCB, q ++ y ++ x.code] (fun _ => if x = .memHl then (if q = 1#2 then 12 else 16) else 8) post :=
  have henc : encode i = [0xCB, q ++ y ++ x.code] := hdec ▸ encode_decodeCb _
  ⟨henc, fun s => ⟨instrCycles_of_pageFields henc s, f s, exec_of_means hm s, hpost s⟩⟩

/-! ### Rotates and shifts (R301 to R308) -/

/-- The carry of a rotate or shift, in the words of the claims. -/
theorem shiftValue_snd (op : ShiftOp) (v : Byte) (carry : Bool) : (shiftValue op v carry).2 = shiftedOut op v.toNat := by
  have hv := v.isLt
  have hlow : v.getLsbD 0 = decide (v.toNat % 2 = 1) := by
    rw [BitVec.getLsbD, Nat.testBit_zero]
  have hhigh : v.getLsbD 7 = decide (v.toNat / 128 = 1) := by
    rw [BitVec.getLsbD, Nat.testBit_eq_decide_div_mod_eq, decide_eq_decide]
    omega
  cases op with
  | rlc | rl | sla => exact hhigh
  | rrc | rr | sra | srl => exact hlow
  | swap => rfl

/-- A rotate or shift on numbers: Z where the number is zero. -/
theorem shift8_eq (op : ShiftOp) (v : Byte) (carry : Bool) :
    shift8 op v carry = ⟨BitVec.ofNat 8 (shiftedNat op v.toNat carry.toNat),
      decide (shiftedNat op v.toNat carry.toNat = 0), false, false, shiftedOut op v.toNat⟩ := by
  have hlt := shiftedNat_lt op v.isLt carry.toNat_lt
  simp only [shift8, shiftValue_fst, shiftValue_snd, ofNat_beq_zero, Nat.mod_eq_of_lt hlt]

theorem shiftOperand_updates (op : ShiftOp) (x : Operand8) (s : State) :
    UpdatesOperand x (shift8 op (s.operandValue x) s.flags.c) 2 s (shiftOperand op x s) := by
  rw [← s.readOperand_eq x]
  exact writeOperand_setFlags_fetched s x _ Nat.two_pos

/-- Settles O21: each writes the operand and the flags after the fetch, and its result is that of `shift8` on numbers. -/
theorem pageRotatesAndShifts : Obligations.PageRotatesAndShifts := fun op x =>
  page_completes (.shift op x) (decodeCb_shift op x) fun s => by
    have h := shiftOperand_updates op x s
    rwa [shift8_eq] at h

/-! ### BIT, RES and SET (R309 to R311) -/

/-- BIT writes the flags alone. -/
theorem testBit_effect (b : Fin 8) (x : Operand8) (s : State) :
    (testBit b x s).flags = bitTestFlags (s.operandValue x) b s.flags ∧ OnlyRegs [] s (testBit b x s) ∧
      (testBit b x s).sp = s.sp ∧ (testBit b x s).bus = s.bus ∧ Advances 2 s (testBit b x s) :=
  ⟨congrArg (bitTestFlags · b s.flags) (s.readOperand_eq x), (onlyRegs_fetched s 2).trans (onlyRegs_setFlags _ _), rfl, rfl,
    (advances_fetched s Nat.two_pos).setFlags _⟩

/-- The write of an operand after the fetch, where no flag is written. -/
theorem writeOperand_fetched (s : State) (x : Operand8) (v : Byte) {len : Nat} (h : 0 < len) :
    WritesOperand x v s ((s.fetched len).writeOperand x v) ∧ ((s.fetched len).writeOperand x v).flags = s.flags ∧
      Advances len s ((s.fetched len).writeOperand x v) :=
  ⟨writesOperand_fetched s len x v, (s.fetched len).writeOperand_flags x v, (advances_fetched s h).writeOperand x v⟩

/-- Settles O22: BIT writes the flags alone after the fetch, RES and SET the operand alone, the old one with one bit changed. -/
theorem pageBitOperations : Obligations.PageBitOperations := by
  refine ⟨fun b x => page_completes (.bit b x) ?_ (testBit_effect b x),
    fun b x => page_completes (.res b x) ?_ fun s => s.readOperand_eq x ▸ writeOperand_fetched s x _ Nat.two_pos,
    fun b x => page_completes (.set b x) ?_ fun s => s.readOperand_eq x ▸ writeOperand_fetched s x _ Nat.two_pos⟩
  · exact BitVec.ofFin_eq_ofNat (w := 3) (lt := b.isLt) ▸ decodeCb_bit b x
  · exact BitVec.ofFin_eq_ofNat (w := 3) (lt := b.isLt) ▸ decodeCb_res b x
  · exact BitVec.ofFin_eq_ofNat (w := 3) (lt := b.isLt) ▸ decodeCb_set b x

end Sys2Proof.Machine

/-!
# Control transfer: targets, frames and completion, taken and not taken

The statements about the jumps, the calls and the returns (46_control.md), and the rules they rest on: when a conditional
transfer completes, and what each of a jump, a call and a return does after the fetch.
-/

namespace Sys2Proof.Machine

/-! ### Conditions (R146, R320) -/

/-- A condition, in the words of the claims. -/
theorem State.condition_eq (s : State) (cc : Cond) : s.condition cc = s.holds cc := by
  cases cc with
  | nz => exact (beq_false _).symm
  | z => exact (beq_true _).symm
  | nc => exact (beq_false _).symm
  | c => exact (beq_true _).symm

/-! ### After the fetch: nothing, a jump, a call, a return -/

theorem fetched_passesOver (s : State) {len : Nat} (h : 0 < len) : PassesOver len s (s.fetched len) :=
  ⟨advances_fetched s h, ⟨onlyRegs_fetched s len, rfl, rfl⟩, rfl⟩

/-- Writing PC writes no other register. -/
theorem onlyRegs_setPc (s : State) (v : Addr) : OnlyRegs [] s (s.setPc v) := fun r _ => s.setPc_reg v r

theorem setPc_fetched_jumpsTo (s : State) (len : Nat) (target : Addr) : JumpsTo target s ((s.fetched len).setPc target) :=
  ⟨⟨rfl, rfl, rfl⟩, ⟨(onlyRegs_fetched s len).trans (onlyRegs_setPc _ target), rfl, rfl⟩, rfl, rfl⟩

/-- A relative jump counts from the address after its two bytes (R324). -/
theorem jumpRel_jumpsTo (e : Byte) (s : State) : JumpsTo (s.pcAfter 2 + e.signExtend 16) s (jumpRel e s) := by
  have heq : jumpRel e s = (s.fetched 2).setPc (s.pcAfter 2 + e.signExtend 16) := by
    rw [← s.fetched_pc 2 Nat.two_pos]
    rfl
  exact heq ▸ setPc_fetched_jumpsTo s 2 _

/-- Writing PC may follow a push. -/
theorem Pushes.setPc {v : Addr} {s t : State} (h : Pushes v s t) (target : Addr) : Pushes v s (t.setPc target) :=
  ⟨storesTwo_of_bus h.bus, h.sp, h.regs.trans (onlyRegs_setPc t target), h.flags⟩

/-- A call pushes the PC that the fetch left, which is the address after the instruction (R326, R333). -/
theorem push16_pc_fetched_callsTo (s : State) (target : Addr) {len : Nat} (h : 0 < len) :
    CallsTo target len s (((s.fetched len).push16 (s.fetched len).pc).setPc target) := by
  rw [s.fetched_pc len h]
  exact ⟨⟨rfl, rfl, rfl⟩, (push16_fetched_pushes s len _).setPc target, rfl⟩

/-- A return reads the stack that the instruction began with: its fetch moved neither SP nor a byte (R328). -/
theorem ret_returnsFrom (s : State) : ReturnsFrom s (ret s) where
  pc := rfl
  sp := rfl
  regs := (onlyRegs_fetched_popped s).trans (onlyRegs_setPc _ _)
  flags := rfl
  bus := rfl
  params := rfl
  input := rfl

/-- RETI is RET with another control state (R330). -/
theorem retInterrupt_eq (s : State) :
    retInterrupt s = { ret s with ctl := { s.ctl with haltBugPending := false, ime := true, eiDelay := 0 } } := rfl

theorem retInterrupt_returnsFrom (s : State) : ReturnsFrom s (retInterrupt s) := by
  obtain ⟨hpc, hsp, hregs, hflags, hbus, hparams, hinput⟩ := ret_returnsFrom s
  rw [retInterrupt_eq]
  exact ⟨hpc, hsp, hregs, hflags, hbus, hparams, hinput⟩

/-! ### Completion of a conditional transfer (R154, R320) -/

/-- The byte 0 of a transfer on `cc` that takes `taken` cycles when `cc` holds and `passed` when it does not (R154). -/
abbrev ConditionalCycles (b : Byte) (cc : Cond) (taken passed : Nat) : Prop :=
  b ≠ 0xCB ∧ condOfCode (field2 b 3) = cc ∧ firstTableCycles.getD b.toNat 0 = taken ∧ cyclesNotTaken b = some passed

theorem instrCycles_of_conditionalCycles {i : Instr} {b : Byte} {rest : List Byte} {cc : Cond} {taken passed : Nat}
    (h : encode i = b :: rest) (hb : ConditionalCycles b cc taken passed) (s : State) :
    instrCycles i s = if s.holds cc then taken else passed := by
  obtain ⟨hne, hcond, htaken, hpassed⟩ := hb
  rw [instrCycles_conditional s h hne hpassed, hcond, htaken, s.condition_eq]

/-- A transfer of `len` bytes that runs as `f` where `cc` holds, and is only fetched where it does not, completes with what
`f` answers and with the instruction passed over. -/
theorem conditional_completes {i : Instr} {f : State → State} {b : Byte} {rest : List Byte} {cc : Cond}
    {taken passed len : Nat} {post : State → State → Prop}
    (hm : Means i fun s => if s.condition cc then f s else s.fetched len) (henc : encode i = b :: rest)
    (hb : ConditionalCycles b cc taken passed) (hlen : 0 < len) (hpost : ∀ s, post s (f s)) :
    Completes i (b :: rest) (fun s => if s.holds cc then taken else passed)
      fun s t => if s.holds cc then post s t else PassesOver len s t := by
  refine ⟨henc, fun s => ⟨instrCycles_of_conditionalCycles henc hb s, _, exec_of_means hm s, ?_⟩⟩
  simp only [s.condition_eq]
  cases s.holds cc with
  | true => exact hpost s
  | false => exact fetched_passesOver s hlen

/-! ### The instructions (R321 to R330, R333) -/

/-- Settles O25: each pushes the PC after the fetch and goes to its target; CALL cc,nn only where the condition holds. -/
theorem callsAndRestarts : Obligations.CallsAndRestarts := by
  refine ⟨fun nn => completes_of_means (.callNn nn) rfl (by decide) fun s => push16_pc_fetched_callsTo s nn (Nat.succ_pos 2),
    fun cc nn => conditional_completes (.callIf cc nn) ?_ ?_ (Nat.succ_pos 2) fun s =>
      push16_pc_fetched_callsTo s nn (Nat.succ_pos 2),
    fun t8 => completes_of_means (.rst t8) ?_ ?_ fun s => push16_pc_fetched_callsTo s _ Nat.one_pos⟩
  · cases cc <;> rfl
  · cases cc <;> decide
  · fin_cases t8 <;> rfl
  · fin_cases t8 <;> decide

/-- Settles O24: each writes PC alone after the fetch; the conditional forms only where the condition holds. -/
theorem jumps : Obligations.Jumps := by
  refine ⟨fun nn => completes_of_means (.jpNn nn) rfl (by decide) fun s => setPc_fetched_jumpsTo s 3 nn,
    fun cc nn => conditional_completes (.jpIf cc nn) ?_ ?_ (Nat.succ_pos 2) fun s => setPc_fetched_jumpsTo s 3 nn,
    completes_of_means .jpHl rfl (by decide) fun s => setPc_fetched_jumpsTo s 1 s.hl,
    fun e => completes_of_means (.jrE e) rfl (by decide) (jumpRel_jumpsTo e),
    fun cc e => conditional_completes (.jrIf cc e) ?_ ?_ Nat.two_pos (jumpRel_jumpsTo e)⟩
  · cases cc <;> rfl
  · cases cc <;> decide
  · cases cc <;> rfl
  · cases cc <;> decide

/-- Settles O26: RET and RET cc keep the control state that the fetch left, RETI sets IME in it and clears the delay. -/
theorem returns : Obligations.Returns := by
  refine ⟨completes_of_means .ret rfl (by decide) fun s => ⟨ret_returnsFrom s, rfl⟩,
    fun cc => conditional_completes (.retIf cc) ?_ ?_ Nat.one_pos fun s => ⟨ret_returnsFrom s, rfl⟩,
    completes_of_means .reti rfl (by decide) fun s => ⟨retInterrupt_returnsFrom s, rfl⟩⟩
  · cases cc <;> rfl
  · cases cc <;> decide

end Sys2Proof.Machine

/-!
# System instructions: results, frames and completion, and the EI delay

The statements about NOP, DI, EI, HALT and STOP (47_system.md) and about the delay of EI (60_exceptions.md section 2), and
the rules they rest on: a change of the control state after the fetch, and the control state after an instruction.
-/

namespace Sys2Proof.Machine

/-! ### NOP, DI and EI (R340, R343, R344) -/

/-- A change of the control state may follow the fetch. -/
theorem fetched_changesControlTo (s : State) (ctl : Control) {len : Nat} (h : 0 < len) :
    ChangesControlTo ctl len s { s.fetched len with ctl := ctl } :=
  ⟨⟨onlyRegs_fetched s len, rfl, rfl⟩, rfl, s.fetched_pc len h, rfl, rfl, rfl⟩

/-- Settles O27: after the fetch NOP changes nothing, DI and EI the control state alone. -/
theorem nopAndInterruptEnable : Obligations.NopAndInterruptEnable :=
  ⟨completes_of_means .nop rfl (by decide) fun s => fetched_passesOver s Nat.one_pos,
    completes_of_means .di rfl (by decide) fun s => fetched_changesControlTo s _ Nat.one_pos,
    completes_of_means .ei rfl (by decide) fun s => fetched_changesControlTo s _ Nat.one_pos⟩

/-! ### HALT (R341) -/

/-- Some interrupt is both requested and enabled exactly where one is a candidate (R411). -/
theorem Bus.pending_ne_zero_iff (b : Bus) : b.pending ≠ 0 ↔ b.anyCandidate = true := by
  have hcandidates : b.anyCandidate = true ↔ ∃ k < 5, b.pending.getLsbD k = true := by
    simp [Bus.anyCandidate, Bus.pending_candidate]
  rw [hcandidates]
  constructor
  · intro hne
    by_contra hnone
    push Not at hnone
    exact hne (BitVec.eq_of_getLsbD_eq fun k hk => by simpa using hnone k hk)
  · rintro ⟨k, -, hk⟩ hzero
    simp [hzero] at hk

/-- The test of HALT, in the words of the claim. -/
theorem haltBug_condition_iff (s : State) : (s.params.haltBug && !s.ctl.ime && s.bus.pending != 0) = true ↔
    s.params.haltBug = true ∧ s.ctl.ime = false ∧ s.bus.anyCandidate = true := by
  rw [← Bus.pending_ne_zero_iff]
  simp [and_assoc]

/-- Settles O28: either way HALT changes the control state alone, by the test that the claim names. -/
theorem haltInstruction : Obligations.HaltInstruction := by
  refine completes_of_means .halt rfl (by decide) fun s => ?_
  unfold haltCpu
  simp only [haltBug_condition_iff]
  split <;> exact fetched_changesControlTo s _ Nat.one_pos

/-! ### STOP (R342) -/

theorem stopCpu_of_fatal {s : State} (h : s.params.stopPolicy = .fatal) :
    stopCpu s = s.raiseFatal .unimplementedOpcode s.pc 0x10 := by
  unfold stopCpu
  rw [h]

/-- Under `low_power`, with the control state that the fetch leaves written out. -/
theorem stopCpu_of_lowPower {s : State} (h : s.params.stopPolicy = .lowPower) :
    stopCpu s = { s.fetched 2 with
      ctl := { s.ctl with haltBugPending := false, runState := .stopped },
      bus := { s.bus with timer := { s.bus.timer with divCounter := 0 } } } := by
  unfold stopCpu
  rw [h]
  rfl

theorem instrCycles_stop (n : Byte) (s : State) : instrCycles (.stop n) s = 4 :=
  instrCycles_of_fixedCycles rfl (by decide) s

/-- STOP is 0x10, whatever its second byte. -/
theorem fetchInstr_of_stop {s : State} (h : s.read s.pc = 0x10) : s.fetchInstr = .stop (s.operandByte 0) := by
  unfold State.fetchInstr
  rw [h]
  rfl

/-- An instruction that does not lead to FATAL is reported by its cycles. -/
theorem executeReport_of_not_fatal {s t : State} (h : exec s.fetchInstr s = .next t) (hf : t.ctl.runState ≠ .fatal) :
    executeReport s = .cycles (instrCycles s.fetchInstr s) := by
  unfold executeReport
  rw [h]
  exact if_neg hf

/-- The step of a STOP reports the exception, or its 4 cycles. -/
theorem stepReport_stop {s : State} (hs : AboutToExecute s) (hb : s.read s.pc = 0x10) : stepReport s =
    if s.params.stopPolicy = .fatal then .fatal (some ⟨.unimplementedOpcode, s.pc, 0x10⟩) else .cycles 4 := by
  have hfetch := fetchInstr_of_stop hb
  have hexec : exec s.fetchInstr s = .next (stopCpu s) := hfetch ▸ exec_of_means (.stop _) s
  rw [stepReport_of_aboutToExecute hs]
  cases hpolicy : s.params.stopPolicy with
  | fatal =>
    rw [stopCpu_of_fatal hpolicy] at hexec
    exact executeReport_of_fatal hexec rfl
  | lowPower =>
    rw [stopCpu_of_lowPower hpolicy] at hexec
    rw [executeReport_of_not_fatal hexec (by simp), hfetch, instrCycles_stop]
    rfl

/-- Settles O29: by the two policies. -/
theorem stopInstruction : Obligations.StopInstruction := by
  refine ⟨fun n s => ⟨rfl, fun hpolicy => ⟨stopCpu s, exec_of_means (.stop n) s, ?_⟩, fun hpolicy =>
    ⟨instrCycles_stop n s, stopCpu s, exec_of_means (.stop n) s, ?_⟩⟩, fun s => stepReport_stop⟩
  · rw [stopCpu_of_fatal hpolicy]
    exact raiseFatal_raisesFatal _ _ s
  · rw [stopCpu_of_lowPower hpolicy]
    exact ⟨⟨onlyRegs_fetched s 2, rfl, rfl⟩, s.fetched_pc 2 Nat.two_pos, rfl, rfl, rfl, rfl⟩

/-! ### The EI delay (R416, R441) -/

/-- The bookkeeping after an instruction, by the delay that it finds: none keeps everything, one enables the interrupts. -/
theorem State.eiBookkeeping_of_zero {s : State} (h : s.ctl.eiDelay = 0) : s.eiBookkeeping = s := by
  unfold State.eiBookkeeping
  rw [h]

theorem State.eiBookkeeping_of_one {s : State} (h : s.ctl.eiDelay = 1) :
    s.eiBookkeeping = { s with ctl := { s.ctl with eiDelay := 0, ime := true } } := by
  unfold State.eiBookkeeping
  rw [h]

theorem State.eiBookkeeping_of_two {s : State} (h : s.ctl.eiDelay = 2) :
    s.eiBookkeeping = { s with ctl := { s.ctl with eiDelay := 1 } } := by
  unfold State.eiBookkeeping
  rw [h]

/-- The devices' advance does not reach the control state, which is as the bookkeeping left it. -/
theorem State.afterExecute_ctl {s : State} (n : Nat) (h : s.ctl.runState ≠ .fatal) :
    (s.afterExecute n).ctl = s.eiBookkeeping.ctl := by
  unfold State.afterExecute
  rw [if_neg h]
  dsimp only
  split <;> rfl

/-- Nothing after an instruction moves PC. -/
theorem State.afterExecute_pc (s : State) (n : Nat) : (s.afterExecute n).pc = s.pc := by
  by_cases h : s.ctl.runState = .fatal
  · rw [s.afterExecute_of_fatal n h]
  · obtain ⟨ime, delay, b, -, heq⟩ := s.afterExecute_effect n h
    rw [heq]
    rfl

/-- A state about to execute runs its instruction's family. -/
theorem step_of_means {s : State} {f : State → State} (h : AboutToExecute s) (hm : Means s.fetchInstr f) :
    step s = .next ((f s).afterExecute (instrCycles s.fetchInstr s)) :=
  step_of_aboutToExecute h (exec_of_means hm s)

theorem fetchInstr_of_ei {s : State} (h : s.read s.pc = 0xFB) : s.fetchInstr = .ei := by
  unfold State.fetchInstr
  rw [h]
  rfl

theorem fetchInstr_of_di {s : State} (h : s.read s.pc = 0xF3) : s.fetchInstr = .di := by
  unfold State.fetchInstr
  rw [h]
  rfl

/-- The instruction at PC is none that begins with another byte. -/
theorem fetchInstr_ne {s : State} {i : Instr} {b : Byte} (hi : (encode i).head? = some b) (h : s.read s.pc ≠ b) :
    s.fetchInstr ≠ i := by
  rintro rfl
  exact h (Option.some.inj ((encode_decodeBytes_head _ _ _).symm.trans hi))

/-- An EI is followed by the bookkeeping that leaves IME alone (R344). -/
theorem step_ei {s : State} (hs : AboutToExecute s) (hb : s.read s.pc = 0xFB) :
    ∃ t, step s = .next t ∧ t.ctl.ime = s.ctl.ime ∧ t.ctl.eiDelay = 1 ∧ t.pc = s.pcAfter 1 := by
  have hrun : (enableInterrupts s).ctl.runState ≠ .fatal := by simp [enableInterrupts, State.fetched, hs.running]
  have hm : Means s.fetchInstr enableInterrupts := fetchInstr_of_ei hb ▸ .ei
  refine ⟨_, step_of_means hs hm, ?_⟩
  rw [State.afterExecute_ctl _ hrun, State.eiBookkeeping_of_two rfl, State.afterExecute_pc]
  exact ⟨rfl, rfl, s.fetched_pc 1 Nat.one_pos⟩

/-- A DI leaves the bookkeeping nothing to do (R343). -/
theorem step_di {s : State} (hs : AboutToExecute s) (hb : s.read s.pc = 0xF3) :
    ∃ t, step s = .next t ∧ t.ctl.ime = false ∧ t.ctl.eiDelay = 0 := by
  have hrun : (disableInterrupts s).ctl.runState ≠ .fatal := by simp [disableInterrupts, State.fetched, hs.running]
  have hm : Means s.fetchInstr disableInterrupts := fetchInstr_of_di hb ▸ .di
  refine ⟨_, step_of_means hs hm, ?_⟩
  rw [State.afterExecute_ctl _ hrun, State.eiBookkeeping_of_zero rfl]
  exact ⟨rfl, rfl⟩

/-- Where a delay of 1 is running, an instruction other than DI and EI leaves it to the bookkeeping, or, as RETI does,
enables the interrupts itself. -/
theorem means_delay {i : Instr} {f : State → State} (h : Means i f) (hdi : i ≠ .di) (hei : i ≠ .ei) {s : State}
    (hs : s.ctl.eiDelay = 1) : (f s).ctl.eiDelay = 1 ∨ (f s).ctl.ime = true ∧ (f s).ctl.eiDelay = 0 := by
  by_cases hreti : i = .reti
  · subst hreti
    rw [means_unique h .reti s]
    exact .inr ⟨rfl, rfl⟩
  · exact .inl ((means_interrupts h hdi hei hreti s).2.trans hs)

/-- The bookkeeping ends either of the two with the interrupts enabled. -/
theorem State.eiBookkeeping_enables {s : State} (h : s.ctl.eiDelay = 1 ∨ s.ctl.ime = true ∧ s.ctl.eiDelay = 0) :
    s.eiBookkeeping.ctl.ime = true ∧ s.eiBookkeeping.ctl.eiDelay = 0 := by
  rcases h with hone | ⟨hime, hzero⟩
  · rw [State.eiBookkeeping_of_one hone]
    exact ⟨rfl, rfl⟩
  · rw [State.eiBookkeeping_of_zero hzero]
    exact ⟨hime, hzero⟩

/-- Settles O45: EI and DI by their own steps; any other instruction leaves the delay of 1 to the bookkeeping, or is RETI. -/
theorem interruptsAreEnabledAfterTheNextInstruction : Obligations.InterruptsAreEnabledAfterTheNextInstruction := by
  refine ⟨fun s => step_ei, fun s t hs hdelay hdi hei ht hrun => ?_, fun s => step_di⟩
  obtain ⟨f, hm⟩ := means_exists s.fetchInstr
  obtain rfl := Host.Outcome.next.inj ((step_of_means hs hm).symm.trans ht)
  have hf : (f s).ctl.runState ≠ .fatal := fun hfatal => hrun (by rwa [State.afterExecute_of_fatal _ _ hfatal])
  rw [State.afterExecute_ctl _ hf]
  exact State.eiBookkeeping_enables (means_delay hm (fetchInstr_ne rfl hdi) (fetchInstr_ne rfl hei) hdelay)

end Sys2Proof.Machine

/-!
# The display: one dot, its frame, and its requests

The statements about the display (60_exceptions.md section 8, R470 to R473): what one dot can do, said once in eight cases, and
from it the invariant of a step, the frame cadence and the display-status requests.
-/

namespace Sys2Proof.Machine

/-! ### The requests of a dot (R471, R472) -/

/-- The request bits that the display raises: V-blank's is IF[0], display-status is IF[1] (R410, R472). -/
def displayRequests (vblank stat : Bool) : BitVec 5 := 0#3 ++ BitVec.ofBool stat ++ BitVec.ofBool vblank

@[simp] theorem displayRequests_or (v s v' s' : Bool) :
    displayRequests v s ||| displayRequests v' s' = displayRequests (v || v') (s || s') := by
  revert v s v' s'
  decide

@[simp] theorem displayRequests_none : displayRequests false false = 0 := rfl

theorem displayRequests_vblank (v s : Bool) : (displayRequests v s).getLsbD 0 = v := by
  revert v s
  decide

theorem displayRequests_stat (v s : Bool) : (displayRequests v s).getLsbD 1 = s := by
  revert v s
  decide

/-- Whether the comparison of a line with LYC requests display-status (R472). -/
def Lcd.lycRequest (d : Lcd) (ly : Byte) : Bool := decide (ly = d.lyc) && d.statEn.getLsbD 3

/-- The bus with a display and requests of the display raised. -/
def Bus.withDisplay (b : Bus) (d : Lcd) (vblank stat : Bool) : Bus :=
  { b with lcd := d, intFlag := b.intFlag ||| displayRequests vblank stat }

section
variable (b : Bus) (d : Lcd) (v s : Bool)

@[simp] theorem Bus.withDisplay_lcd : (b.withDisplay d v s).lcd = d := rfl

theorem Bus.withDisplay_intFlag : (b.withDisplay d v s).intFlag = b.intFlag ||| displayRequests v s := rfl

theorem Bus.withDisplay_self : b.withDisplay b.lcd false false = b := by
  simp [Bus.withDisplay]

theorem Bus.withDisplay_only : b.withDisplay d false false = { b with lcd := d } := by
  simp [Bus.withDisplay]

@[simp] theorem Bus.withDisplay_withDisplay (d' : Lcd) (v' s' : Bool) :
    (b.withDisplay d v s).withDisplay d' v' s' = b.withDisplay d' (v || v') (s || s') := by
  simp [Bus.withDisplay, BitVec.or_assoc]

/-- A display-status condition requests where its enable bit is set (R472). -/
theorem statEvent_eq (bit : Nat) : statEvent bit b = b.withDisplay b.lcd false (b.lcd.statEn.getLsbD (bit - 3)) := by
  unfold statEvent
  cases b.lcd.statEn.getLsbD (bit - 3)
  · exact b.withDisplay_self.symm
  · rfl

theorem lycCheck_eq : lycCheck b = b.withDisplay b.lcd false (b.lcd.lycRequest b.lcd.ly) := by
  unfold lycCheck Lcd.lycRequest
  by_cases h : b.lcd.ly = b.lcd.lyc
  · simp [h, statEvent_eq]
  · simp [h, b.withDisplay_self]

theorem setMode_eq (m : LcdMode) : setMode m b = b.withDisplay { b.lcd with mode := m } false false :=
  (b.withDisplay_only _).symm

theorem startLine_eq (ly : Byte) : startLine ly b = b.withDisplay { b.lcd with dot := 0, ly := ly } false false :=
  (b.withDisplay_only _).symm

theorem enterOamScan_eq :
    enterOamScan b = b.withDisplay { b.lcd with mode := .oamScan } false (b.lcd.statEn.getLsbD 2) := by
  simp [enterOamScan, setMode_eq, statEvent_eq]

theorem enterVblank_eq : enterVblank b =
    b.withDisplay { b.lcd with mode := .vblank, fbFront := b.lcd.fbWork, generation := b.lcd.generation + 1 } true
      (b.lcd.statEn.getLsbD 1) := by
  have hvblank : (setMode .vblank b).request 0 = b.withDisplay { b.lcd with mode := .vblank } true false := rfl
  have hpublish (c : Bus) : publish c =
      c.withDisplay { c.lcd with fbFront := c.lcd.fbWork, generation := c.lcd.generation + 1 } false false :=
    (c.withDisplay_only _).symm
  rw [enterVblank, hvblank]
  simp [hpublish, statEvent_eq]

theorem startFrame_eq : startFrame b =
    b.withDisplay { b.lcd with dot := 0, ly := 0, windowLine := 0, mode := .oamScan } false (b.lcd.statEn.getLsbD 2) := by
  simp [startFrame, startLine_eq, enterOamScan_eq, ← Bus.withDisplay_only]

end

/-! ### What one dot can do (R471) -/

/-- What a dot makes of the display and whether it requests V-blank and display-status, by the position it leaves (R471). -/
inductive DotEffect (b : Bus) : Lcd → Bool → Bool → Prop where
  | off (off : b.lcd.enabled = false) : DotEffect b b.lcd false false
  | within (on : b.lcd.enabled = true) (more : b.lcd.dot ≠ 455)
      (same : b.lcd.ly.toNat < 144 → b.lcd.dot ≠ 79 ∧ b.lcd.dot ≠ 251) :
      DotEffect b { b.lcd with dot := b.lcd.dot + 1 } false false
  | transfer (on : b.lcd.enabled = true) (visible : b.lcd.ly.toNat < 144) (dot : b.lcd.dot = 79) :
      DotEffect b { b.lcd with
        dot := 80, mode := .transfer, fbWork := b.lcd.fbWork.set b.lcd.ly.toNat (b.renderRow b.lcd.ly.toNat),
        windowLine := if b.lcd.windowActive b.lcd.ly.toNat then b.lcd.windowLine + 1 else b.lcd.windowLine } false false
  | hblank (on : b.lcd.enabled = true) (visible : b.lcd.ly.toNat < 144) (dot : b.lcd.dot = 251) :
      DotEffect b { b.lcd with dot := 252, mode := .hblank } false (b.lcd.statEn.getLsbD 0)
  | visibleLine (on : b.lcd.enabled = true) (visible : b.lcd.ly.toNat < 143) (dot : b.lcd.dot = 455) :
      DotEffect b { b.lcd with dot := 0, ly := b.lcd.ly + 1, mode := .oamScan } false
        (b.lcd.statEn.getLsbD 2 || b.lcd.lycRequest (b.lcd.ly + 1))
  | vblank (on : b.lcd.enabled = true) (last : b.lcd.ly = 143) (dot : b.lcd.dot = 455) :
      DotEffect b { b.lcd with
        dot := 0, ly := 144, mode := .vblank, fbFront := b.lcd.fbWork, generation := b.lcd.generation + 1 } true
        (b.lcd.statEn.getLsbD 1 || b.lcd.lycRequest 144)
  | vblankLine (on : b.lcd.enabled = true) (hidden : 144 ≤ b.lcd.ly.toNat) (notLast : b.lcd.ly ≠ 153)
      (dot : b.lcd.dot = 455) :
      DotEffect b { b.lcd with dot := 0, ly := b.lcd.ly + 1 } false (b.lcd.lycRequest (b.lcd.ly + 1))
  | frame (on : b.lcd.enabled = true) (last : b.lcd.ly = 153) (dot : b.lcd.dot = 455) :
      DotEffect b { b.lcd with dot := 0, ly := 0, windowLine := 0, mode := .oamScan } false
        (b.lcd.statEn.getLsbD 2 || b.lcd.lycRequest 0)

section
variable {b : Bus}

/-- The end of a visible line, the counted dot included. -/
theorem endVisibleLine_effect (on : b.lcd.enabled = true) (visible : b.lcd.ly.toNat < 144) (dot : b.lcd.dot = 455) :
    ∃ d v s, endVisibleLine { b with lcd := { b.lcd with dot := b.lcd.dot + 1 } } = b.withDisplay d v s ∧
      DotEffect b d v s := by
  by_cases hly : b.lcd.ly = 143
  · refine ⟨_, _, _, ?_, .vblank on hly dot⟩
    have next : b.lcd.ly + 1 = 144 := by rw [hly]; rfl
    unfold endVisibleLine
    dsimp only
    rw [if_pos next, next]
    simp [← Bus.withDisplay_only, startLine_eq, enterVblank_eq, lycCheck_eq]
    rfl
  · refine ⟨_, _, _, ?_, .visibleLine on (by bv_omega) dot⟩
    have next : b.lcd.ly + 1 ≠ 144 := by bv_omega
    unfold endVisibleLine
    dsimp only
    rw [if_neg next]
    simp [← Bus.withDisplay_only, startLine_eq, enterOamScan_eq, lycCheck_eq]
    rfl

/-- The end of a V-blank line, the counted dot included. -/
theorem endVblankLine_effect (on : b.lcd.enabled = true) (hidden : 144 ≤ b.lcd.ly.toNat) (dot : b.lcd.dot = 455) :
    ∃ d v s, endVblankLine { b with lcd := { b.lcd with dot := b.lcd.dot + 1 } } = b.withDisplay d v s ∧
      DotEffect b d v s := by
  by_cases hly : b.lcd.ly = 153
  · refine ⟨_, _, _, ?_, .frame on hly dot⟩
    have next : b.lcd.ly + 1 = 154 := by rw [hly]; rfl
    unfold endVblankLine
    dsimp only
    rw [if_pos next]
    simp [← Bus.withDisplay_only, startFrame_eq, lycCheck_eq]
    rfl
  · refine ⟨_, _, _, ?_, .vblankLine on hidden hly dot⟩
    have next : b.lcd.ly + 1 ≠ 154 := by bv_omega
    unfold endVblankLine
    dsimp only
    rw [if_neg next]
    simp [← Bus.withDisplay_only, startLine_eq, lycCheck_eq]
    rfl

end

/-- Every dot does one of the eight things. -/
theorem displayDot_effect (b : Bus) : ∃ d v s, displayDot b = b.withDisplay d v s ∧ DotEffect b d v s := by
  cases on : b.lcd.enabled with
  | false => exact ⟨_, _, _, by rw [displayDot_of_off on, b.withDisplay_self], .off on⟩
  | true =>
    unfold displayDot
    rw [if_pos on]
    dsimp only
    split_ifs with visible h80 h252 h456 h456
    · exact ⟨_, _, _, by rw [h80, Bus.withDisplay_only]; rfl, .transfer on visible (by omega)⟩
    · exact ⟨_, _, _, by simp [← Bus.withDisplay_only, setMode_eq, statEvent_eq, h252], .hblank on visible (by omega)⟩
    · exact endVisibleLine_effect on visible (by omega)
    · exact ⟨_, _, _, (b.withDisplay_only _).symm, .within on (by omega) (by omega)⟩
    · exact endVblankLine_effect on (by omega) (by omega)
    · exact ⟨_, _, _, (b.withDisplay_only _).symm, .within on (by omega) (by omega)⟩

/-! ### Every step keeps the display in step (R471, R473, R51) -/

theorem Lcd.positionOk_of_on {d : Lcd} (on : d.enabled = true) :
    d.positionOk ↔ d.ly.toNat ≤ 153 ∧ d.dot ≤ 455 ∧ d.mode = modeAt d.ly.toNat d.dot := by
  simp [Lcd.positionOk, on]

theorem Lcd.positionOk_of_off {d : Lcd} (off : d.enabled = false) :
    d.positionOk ↔ d.ly = 0 ∧ d.dot = 0 ∧ d.mode = .hblank := by
  simp [Lcd.positionOk, off]

/-- The position and mode are in step whatever the other registers hold. -/
theorem Lcd.positionOk_congr {d e : Lcd} (h : d.positionOk) (henabled : e.enabled = d.enabled) (hly : e.ly = d.ly)
    (hdot : e.dot = d.dot) (hmode : e.mode = d.mode) : e.positionOk := by
  unfold Lcd.positionOk at h ⊢
  rwa [henabled, hly, hdot, hmode]

/-- Every dot keeps the byte of LCDC, and with it the enable bit. -/
theorem DotEffect.lcdc {b : Bus} {d : Lcd} {v s : Bool} (h : DotEffect b d v s) : d.lcdc = b.lcd.lcdc := by
  cases h <;> rfl

theorem DotEffect.enabled {b : Bus} {d : Lcd} {v s : Bool} (h : DotEffect b d v s) : d.enabled = b.lcd.enabled :=
  congrArg (·.getLsbD 7) h.lcdc

/-- The mode stays from dot to dot but where pixel-transfer or H-blank begins. -/
theorem modeAt_succ {ly dot : Nat} (h : ly < 144 → dot ≠ 79 ∧ dot ≠ 251) : modeAt ly (dot + 1) = modeAt ly dot := by
  unfold modeAt
  by_cases hly : 144 ≤ ly
  · rw [if_pos hly, if_pos hly]
  · have h80 : dot + 1 < 80 ↔ dot < 80 := by omega
    have h252 : dot + 1 < 252 ↔ dot < 252 := by omega
    simp only [h80, h252]

/-- A display that is off is left as it is. -/
theorem DotEffect.lcd_of_off {b : Bus} {d : Lcd} {v s : Bool} (h : DotEffect b d v s) (off : b.lcd.enabled = false) :
    d = b.lcd := by
  cases h with
  | off => rfl
  | _ => simp_all

/-- Every dot leads from a position of the frame, with its mode, to another. -/
theorem DotEffect.positionOk {b : Bus} {d : Lcd} {v s : Bool} (h : DotEffect b d v s) (hb : b.lcd.positionOk) :
    d.positionOk := by
  cases on : b.lcd.enabled with
  | false => exact h.lcd_of_off on ▸ hb
  | true =>
    obtain ⟨hly, hdot, hmode⟩ := (Lcd.positionOk_of_on on).mp hb
    refine (Lcd.positionOk_of_on (h.enabled.trans on)).mpr ?_
    cases h with
    | off off => exact ⟨hly, hdot, hmode⟩
    | within _ more same =>
      exact ⟨hly, by dsimp only; omega, hmode.trans (modeAt_succ same).symm⟩
    | transfer _ visible dot => simp [modeAt, hly, visible]
    | hblank _ visible dot => simp [modeAt, hly, visible]
    | visibleLine _ visible dot =>
      have : (b.lcd.ly + 1).toNat = b.lcd.ly.toNat + 1 := by bv_omega
      simp only [modeAt, this]
      exact ⟨by omega, by omega, by rw [if_neg (by omega)]; rfl⟩
    | vblank _ last dot => simp [modeAt]
    | vblankLine _ hidden notLast dot =>
      have : (b.lcd.ly + 1).toNat = b.lcd.ly.toNat + 1 := by bv_omega
      rw [modeAt, if_pos hidden] at hmode
      simp only [modeAt, this]
      exact ⟨by bv_omega, by omega, by rw [if_pos (by omega), hmode]⟩
    | frame _ last dot => simp [modeAt]

theorem Bus.renderRow_length (b : Bus) (ly : Nat) : (b.renderRow ly).length = 160 := by
  simp [Bus.renderRow]

/-- A rendered row replaces one of the frame (R474). -/
theorem Frame.shaped_set {f : Frame} (h : f.shaped) (i : Nat) {row : List (BitVec 2)} (hrow : row.length = 160) :
    Frame.shaped (f.set i row) := by
  obtain ⟨hlen, hrows⟩ := h
  refine ⟨by simpa using hlen, fun r hr => ?_⟩
  rcases List.mem_or_eq_of_mem_set hr with hmem | rfl
  · exact hrows r hmem
  · exact hrow

theorem Frame.blank_shaped : Frame.blank.shaped :=
  ⟨List.length_replicate, fun row hrow => by rw [(List.mem_replicate.mp hrow).2]; exact List.length_replicate⟩

/-- Every dot keeps the shape of the frame buffers. -/
theorem DotEffect.shaped {b : Bus} {d : Lcd} {v s : Bool} (h : DotEffect b d v s) (hwork : b.lcd.fbWork.shaped)
    (hfront : b.lcd.fbFront.shaped) : d.fbWork.shaped ∧ d.fbFront.shaped := by
  cases h with
  | transfer => exact ⟨Frame.shaped_set hwork _ (b.renderRow_length _), hfront⟩
  | vblank => exact ⟨hwork, hwork⟩
  | _ => exact ⟨hwork, hfront⟩

theorem displayDot_ok {b : Bus} (h : b.lcd.ok) : (displayDot b).lcd.ok := by
  obtain ⟨hposition, hwork, hfront⟩ := h
  obtain ⟨d, v, s, heq, heffect⟩ := displayDot_effect b
  rw [heq]
  exact ⟨heffect.positionOk hposition, heffect.shaped hwork hfront⟩

theorem advanceDevices_lcd_ok (n : Nat) {b : Bus} (h : b.lcd.ok) : (advanceDevices n b).lcd.ok :=
  displayAdvance_induct (P := fun c => c.lcd.ok) (fun _ => displayDot_ok) n (by rwa [timerAdvance_lcd])

/-- A write of LCDC leaves a display that is switched at the position where R473 says it begins. -/
theorem Lcd.writeLcdc_ok {d : Lcd} (v : Byte) (h : d.ok) : (d.writeLcdc v).ok := by
  obtain ⟨hposition, hwork, hfront⟩ := h
  have henabled : Lcd.enabled { d with lcdc := v } = v.getLsbD 7 := rfl
  cases on : d.enabled <;> cases hv : v.getLsbD 7
  · rw [d.writeLcdc_unswitched v (on.trans hv.symm)]
    exact ⟨Lcd.positionOk_congr hposition ((henabled.trans hv).trans on.symm) rfl rfl rfl, hwork, hfront⟩
  · rw [d.writeLcdc_on v on hv]
    have on' : Lcd.enabled (Lcd.enable { d with lcdc := v }) = true := henabled.trans hv
    exact ⟨(Lcd.positionOk_of_on on').mpr (by simp [Lcd.enable, modeAt]), hwork, hfront⟩
  · rw [d.writeLcdc_off v on hv]
    have off' : Lcd.enabled (Lcd.disable { d with lcdc := v }) = false := henabled.trans hv
    exact ⟨(Lcd.positionOk_of_off off').mpr ⟨rfl, rfl, rfl⟩, Frame.blank_shaped, Frame.blank_shaped⟩
  · rw [d.writeLcdc_unswitched v (on.trans hv.symm)]
    exact ⟨Lcd.positionOk_congr hposition ((henabled.trans hv).trans on.symm) rfl rfl rfl, hwork, hfront⟩

/-- Every store keeps the display in step: LCDC alone reaches what it speaks of. -/
theorem Bus.write_lcd_ok {b : Bus} (a : Addr) (v : Byte) (h : b.lcd.ok) : (b.write a v).lcd.ok := by
  unfold Bus.write
  split
  case h_9 =>
    unfold Bus.writeIo
    split
    case h_10 => exact b.lcd.writeLcdc_ok v h
    all_goals exact h
  all_goals exact h

/-- Settles O56: a step reaches the display by stores and by dots alone, and both keep it in step. -/
theorem stepKeepsDisplayInStep : Obligations.StepKeepsDisplayInStep := fun _ _ hs ht =>
  step_bus_induct (P := fun b => b.lcd.ok) (fun _ a v => Bus.write_lcd_ok a v) (fun n _ => advanceDevices_lcd_ok n)
    (fun _ _ _ h => h) ht hs

/-! ### The frame cadence (R470, R471) -/

/-- From `b` to `c` the display that is on has gone `n` dots along its frame, and V-blank was requested exactly where a frame
was published. -/
structure GoesAlongFrame (n : Nat) (b c : Bus) : Prop where
  on : c.lcd.enabled = true
  ok : c.lcd.positionOk
  position : c.lcd.position = (b.lcd.position + n) % 70224
  generation : c.lcd.generation + (b.lcd.position + 4560) / 70224 = b.lcd.generation + (b.lcd.position + n + 4560) / 70224
  vblank : c.intFlag.getLsbD 0 = (b.intFlag.getLsbD 0 || decide (c.lcd.generation ≠ b.lcd.generation))

/-- A position of the frame lies in it. -/
theorem Lcd.position_lt {d : Lcd} (on : d.enabled = true) (ok : d.positionOk) : d.position < 70224 := by
  obtain ⟨hly, hdot, -⟩ := (Lcd.positionOk_of_on on).mp ok
  unfold Lcd.position
  omega

theorem GoesAlongFrame.refl {b : Bus} (on : b.lcd.enabled = true) (ok : b.lcd.positionOk) : GoesAlongFrame 0 b b where
  on := on
  ok := ok
  position := by rw [Nat.add_zero, Nat.mod_eq_of_lt (Lcd.position_lt on ok)]
  generation := by rw [Nat.add_zero]
  vblank := by simp

theorem GoesAlongFrame.generation_le {n : Nat} {b c : Bus} (h : GoesAlongFrame n b c) :
    b.lcd.generation ≤ c.lcd.generation := by
  have := h.generation
  omega

theorem GoesAlongFrame.trans {m n : Nat} {b c d : Bus} (h : GoesAlongFrame m b c)
    (g : GoesAlongFrame n c d) : GoesAlongFrame (m + n) b d where
  on := g.on
  ok := g.ok
  position := by rw [g.position, h.position]; omega
  generation := by
    have hg := g.generation
    have hh := h.generation
    rw [h.position] at hg
    omega
  vblank := by
    have hle := h.generation_le
    have hle' := g.generation_le
    have hsum : d.lcd.generation ≠ b.lcd.generation ↔
        c.lcd.generation ≠ b.lcd.generation ∨ d.lcd.generation ≠ c.lcd.generation := by omega
    rw [g.vblank, h.vblank, Bool.or_assoc, ← Bool.decide_or, decide_eq_decide.mpr hsum]

/-- One dot goes one dot along the frame. -/
theorem DotEffect.goesAlongFrame {b : Bus} {d : Lcd} {v s : Bool} (h : DotEffect b d v s) (on : b.lcd.enabled = true)
    (ok : b.lcd.positionOk) : GoesAlongFrame 1 b (b.withDisplay d v s) := by
  obtain ⟨hly, hdot, -⟩ := (Lcd.positionOk_of_on on).mp ok
  have hline : b.lcd.ly ≠ 153 → (b.lcd.ly + 1).toNat = b.lcd.ly.toNat + 1 ∧ b.lcd.ly.toNat ≤ 152 := by bv_omega
  have key : d.position = (b.lcd.position + 1) % 70224 ∧
      d.generation + (b.lcd.position + 4560) / 70224 = b.lcd.generation + (b.lcd.position + 1 + 4560) / 70224 ∧
      v = decide (d.generation ≠ b.lcd.generation) := by
    unfold Lcd.position
    cases h with
    | off off => exact absurd on (by simp [off])
    | within => exact ⟨by dsimp only; omega, by dsimp only; omega, by simp⟩
    | transfer _ _ dot => exact ⟨by dsimp only; omega, by dsimp only; omega, by simp⟩
    | hblank _ _ dot => exact ⟨by dsimp only; omega, by dsimp only; omega, by simp⟩
    | visibleLine _ visible dot =>
      have := hline (by bv_omega)
      exact ⟨by dsimp only; omega, by dsimp only; omega, by simp⟩
    | vblank _ last dot => simp [last, dot]
    | vblankLine _ _ notLast dot =>
      have := hline notLast
      exact ⟨by dsimp only; omega, by dsimp only; omega, by simp⟩
    | frame _ last dot => simp [last, dot]
  obtain ⟨hposition, hgeneration, hv⟩ := key
  refine ⟨h.enabled.trans on, h.positionOk ok, hposition, hgeneration, ?_⟩
  rw [Bus.withDisplay_intFlag, BitVec.getLsbD_or, displayRequests_vblank, hv, Bus.withDisplay_lcd]

theorem displayAdvance_goesAlongFrame (n : Nat) {b : Bus} (on : b.lcd.enabled = true) (ok : b.lcd.positionOk) :
    GoesAlongFrame n b (displayAdvance n b) := by
  induction n generalizing b with
  | zero => exact .refl on ok
  | succ n ih =>
    obtain ⟨d, v, s, heq, heffect⟩ := displayDot_effect b
    have hone := heffect.goesAlongFrame on ok
    have hadvance : displayAdvance (n + 1) b = displayAdvance n (b.withDisplay d v s) := congrArg (displayAdvance n) heq
    rw [hadvance, Nat.add_comm]
    exact hone.trans (ih hone.on hone.ok)

/-- The request bits that a display's change leaves alone, and those it may raise. -/
theorem DisplayChange.intFlag {b c : Bus} (h : DisplayChange b c) :
    (∀ k, b.intFlag.getLsbD k = true → c.intFlag.getLsbD k = true) ∧
      ∀ k, 2 ≤ k → c.intFlag.getLsbD k = b.intFlag.getLsbD k := by
  obtain ⟨d, raised, rfl, hraised, -⟩ := h
  refine ⟨fun k hk => by simp [hk], fun k hk => ?_⟩
  have hclear : raised.getLsbD k = false := by
    by_cases hk5 : k < 5
    · have := congrArg (·.getLsbD k) hraised
      interval_cases k <;> simpa using this
    · exact BitVec.getLsbD_of_ge _ _ (by omega)
  simp [hclear]

/-- A display's change, in the words of the claim: everything else of the bus and of the display stays. -/
theorem DisplayChange.frame {b c : Bus} (h : DisplayChange b c) :
    c = { b with lcd := c.lcd, intFlag := c.intFlag } ∧
      c.lcd = { b.lcd with
        ly := c.lcd.ly, dot := c.lcd.dot, mode := c.lcd.mode, windowLine := c.lcd.windowLine,
        fbWork := c.lcd.fbWork, fbFront := c.lcd.fbFront, generation := c.lcd.generation } := by
  obtain ⟨d, raised, rfl, -, hd⟩ := h
  exact ⟨rfl, hd⟩

/-- Settles O47: the frame of the advance is the display's change, the cadence the sum of its dots. -/
theorem displayFollowsItsFrame : Obligations.DisplayFollowsItsFrame := by
  refine ⟨fun n b => ⟨rfl, rfl⟩, fun n b => ?_, fun n b on ok => ?_⟩
  · have h := displayAdvance_change n b
    exact ⟨h.frame.1, h.frame.2, h.intFlag⟩
  · have h := displayAdvance_goesAlongFrame n on ok
    exact ⟨h.position, h.ok, h.generation, h.vblank⟩

/-! ### The display-status requests (R471, R472) -/

/-- A dot requests display-status exactly when it enters a mode or begins a line whose condition is enabled. -/
theorem DotEffect.stat {b : Bus} {d : Lcd} {v s : Bool} (h : DotEffect b d v s) (ok : b.lcd.positionOk) :
    s = (decide (d.mode ≠ b.lcd.mode ∧ d.mode = .hblank) && b.lcd.statEn.getLsbD 0 ||
      decide (d.mode ≠ b.lcd.mode ∧ d.mode = .vblank) && b.lcd.statEn.getLsbD 1 ||
      decide (d.mode ≠ b.lcd.mode ∧ d.mode = .oamScan) && b.lcd.statEn.getLsbD 2 ||
      decide (d.ly ≠ b.lcd.ly ∧ d.ly = b.lcd.lyc) && b.lcd.statEn.getLsbD 3) := by
  have hmode (on : b.lcd.enabled = true) : b.lcd.mode = modeAt b.lcd.ly.toNat b.lcd.dot :=
    ((Lcd.positionOk_of_on on).mp ok).2.2
  cases h with
  | off => simp
  | within => simp
  | transfer => simp
  | hblank on visible dot =>
    have : b.lcd.mode = .transfer := by rw [hmode on, modeAt, dot, if_neg (by omega)]; rfl
    simp [this]
  | visibleLine on visible dot =>
    have : b.lcd.mode = .hblank := by rw [hmode on, modeAt, dot, if_neg (by omega)]; rfl
    simp [this, Lcd.lycRequest]
  | vblank on last dot =>
    have : b.lcd.mode = .hblank := by rw [hmode on, last, dot]; rfl
    simp [this, last, Lcd.lycRequest]
  | vblankLine on hidden notLast dot =>
    have : b.lcd.mode = .vblank := by rw [hmode on, modeAt, if_pos hidden]
    simp [this, Lcd.lycRequest]
  | frame on last dot =>
    have : b.lcd.mode = .vblank := by rw [hmode on, last, dot]; rfl
    simp [this, last, Lcd.lycRequest]

/-- Settles O49: each dot requests by the mode that it enters and by the line that it begins. -/
theorem displayStatusRequests : Obligations.DisplayStatusRequests := by
  intro b ok
  have hchange := displayDot_change b
  refine ⟨?_, hchange.intFlag.2, ?_, ?_⟩
  · obtain ⟨d, v, s, heq, heffect⟩ := displayDot_effect b
    rw [heq, Bus.withDisplay_lcd, Bus.withDisplay_intFlag, BitVec.getLsbD_or, displayRequests_stat, heffect.stat ok]
    simp only [Bool.or_assoc]
  · rw [hchange.frame.2]
  · rw [hchange.frame.2]

end Sys2Proof.Machine

/-!
# The divider and the timer

The statement about the timer (60_exceptions.md section 6): when the tapped bit of the divider falls, and what an advance does.
-/

namespace Sys2Proof.Machine

/-- The four rates: the tapped bit and the period that belongs to it (R37, R450). -/
theorem timer_rates (tac : BitVec 3) :
    timerTap tac = 9 ∧ timerPeriod tac = 1024 ∨ timerTap tac = 3 ∧ timerPeriod tac = 16 ∨
      timerTap tac = 5 ∧ timerPeriod tac = 64 ∨ timerTap tac = 7 ∧ timerPeriod tac = 256 := by
  revert tac
  decide

/-- Whether the tapped bit falls as the divider counts one on (R450). -/
def Timer.tapFalls (t : Timer) : Bool :=
  t.divCounter.getLsbD (timerTap t.tac) && !(t.divCounter + 1).getLsbD (timerTap t.tac)

/-- Bit `k` of a bit string, on its number. -/
theorem getLsbD_eq_decide {w : Nat} (v : BitVec w) (k : Nat) : v.getLsbD k = decide (v.toNat / 2 ^ k % 2 = 1) :=
  (BitVec.testBit_toNat v).symm.trans Nat.testBit_eq_decide_div_mod_eq

/-- The tapped bit falls where the divider becomes a multiple of the period (R37, R450). -/
theorem Timer.tapFalls_eq (t : Timer) :
    t.tapFalls = decide ((t.divCounter.toNat + 1) % timerPeriod t.tac = 0) := by
  have hc := t.divCounter.isLt
  have hnext : (t.divCounter + 1).toNat = (t.divCounter.toNat + 1) % 65536 := by simp
  rw [Bool.eq_iff_iff]
  simp only [Timer.tapFalls, getLsbD_eq_decide, hnext, Bool.and_eq_true, Bool.not_eq_true', decide_eq_true_eq,
    decide_eq_false_iff_not]
  rcases timer_rates t.tac with ⟨htap, hperiod⟩ | ⟨htap, hperiod⟩ | ⟨htap, hperiod⟩ | ⟨htap, hperiod⟩ <;>
    rw [htap, hperiod] <;> omega

section
variable (b : Bus)

/-- A tick counts the divider, and increments TIMA where the tapped bit of a running timer falls (R450). -/
theorem timerTick_eq : timerTick b =
    let t := { b with timer := { b.timer with divCounter := b.timer.divCounter + 1 } }
    if b.timer.running && b.timer.tapFalls then timaIncrement t else t := by
  unfold timerTick Timer.tapFalls
  simp only [Bool.and_assoc]

theorem timerTick_of_stopped (h : b.timer.tac.getLsbD 2 = false) :
    timerTick b = { b with timer := { b.timer with divCounter := b.timer.divCounter + 1 } } := by
  rw [timerTick_eq, Timer.running, h]
  rfl

theorem timerTick_of_running (h : b.timer.tac.getLsbD 2 = true) : timerTick b =
    let t := { b with timer := { b.timer with divCounter := b.timer.divCounter + 1 } }
    if (b.timer.divCounter.toNat + 1) % timerPeriod b.timer.tac = 0 then timaIncrement t else t := by
  rw [timerTick_eq, Timer.running, h, Bool.true_and, Timer.tapFalls_eq]
  simp only [decide_eq_true_eq]

@[simp] theorem timerTick_divCounter : (timerTick b).timer.divCounter = b.timer.divCounter + 1 := by
  rw [timerTick_eq]
  unfold timaIncrement
  dsimp only
  split_ifs <;> rfl

theorem timerAdvance_divCounter (n : Nat) :
    (timerAdvance n b).timer.divCounter = b.timer.divCounter + BitVec.ofNat 16 n := by
  induction n generalizing b with
  | zero => simp [timerAdvance]
  | succ n ih =>
    show (timerAdvance n (timerTick b)).timer.divCounter = _
    rw [ih, timerTick_divCounter, BitVec.add_assoc, Nat.add_comm, BitVec.ofNat_add]
    rfl

theorem timerAdvance_of_stopped (n : Nat) (h : b.timer.tac.getLsbD 2 = false) : timerAdvance n b =
    { b with timer := { b.timer with divCounter := b.timer.divCounter + BitVec.ofNat 16 n } } := by
  induction n generalizing b with
  | zero => simp [timerAdvance]
  | succ n ih =>
    show timerAdvance n (timerTick b) = _
    rw [timerTick_of_stopped b h]
    refine (ih _ ?_).trans ?_
    · exact h
    · simp [BitVec.add_assoc, Nat.add_comm n 1, BitVec.ofNat_add]

end

/-- Settles O46: by the tick of a stopped and of a running timer. -/
theorem dividerDrivesTheTimer : Obligations.DividerDrivesTheTimer := by
  refine ⟨fun n b => ⟨rfl, rfl⟩, fun n b => timerAdvance_divCounter b n, fun n b => timerAdvance_of_stopped b n,
    fun b hrun hnot => ?_, fun b hrun hmultiple => ?_⟩
  · rw [timerTick_of_running b hrun]
    exact if_neg hnot
  · rw [timerTick_of_running b hrun]
    exact if_pos hmultiple

end Sys2Proof.Machine

/-!
# Tiles and sprites, on numbers

The statement about the sprites of a line and of a pixel (60_exceptions.md section 8, R476), and the colour numbers of tiles
and the shades of palettes on numbers (R46, R479), which the rendered line uses too.
-/

namespace Sys2Proof.Machine

/-! ### Colours and shades on numbers (R46, R479) -/

/-- Bit `k` of a byte, as a number. -/
theorem getLsbD_toNat (v : Byte) (k : Nat) : (v.getLsbD k).toNat = v.toNat / 2 ^ k % 2 := by
  rw [getLsbD_eq_decide]
  rcases Nat.mod_two_eq_zero_or_one (v.toNat / 2 ^ k) with h | h <;> simp [h]

theorem Bus.vramByte_eq (b : Bus) (i : Nat) : b.vramByte (0x8000 + i) = b.vram.read i := by
  rw [Bus.vramByte, Nat.add_sub_cancel_left]

/-- The colour number of a tile's pixel, for the tile at byte `offset` of VRAM. -/
theorem Bus.tilePixel_toNat (b : Bus) (offset row col : Nat) :
    (b.tilePixel (0x8000 + offset) row col).toNat = b.tileColour offset row col := by
  simp only [Bus.tilePixel, Bus.tileColour, Nat.add_assoc, Bus.vramByte_eq, toNat_append_eq_add, BitVec.toNat_ofBool,
    getLsbD_toNat]
  omega

theorem paletteShade_toNat (palette : Byte) (colour : BitVec 2) :
    (paletteShade palette colour).toNat = shadeNat palette colour.toNat := by
  rw [paletteShade, shadeNat, BitVec.extractLsb'_toNat, Nat.shiftRight_eq_div_pow, Nat.pow_mul]

/-! ### A sprite's colour (R476) -/

/-- The even number of a pair of tiles. -/
theorem and_FE_toNat (v : Byte) : (v &&& 0xFE).toNat = v.toNat / 2 * 2 := by
  revert v
  decide

theorem Lcd.spriteRows_eq_sixteen_iff (d : Lcd) : d.spriteRows = 16 ↔ d.lcdc.getLsbD 2 = true := by
  unfold Lcd.spriteRows
  split <;> simp_all

/-- The colour of an entry at a pixel that its eight columns reach. -/
theorem Bus.spriteColour_of_reached (b : Bus) (ly : Nat) {x i : Nat}
    (h : b.oamByte i 1 ≤ x + 8 ∧ x + 8 < b.oamByte i 1 + 8) :
    b.spriteColour (b.oamEntry i) ly x =
      b.tilePixel (0x8000 + 16 * (if b.lcd.lcdc.getLsbD 2 = true then b.oam.read (4 * i + 2) &&& 0xFE
          else b.oam.read (4 * i + 2)).toNat)
        (if (b.oam.read (4 * i + 3)).getLsbD 6 = true then b.lcd.spriteRows - 1 - (ly + 16 - b.oamByte i 0)
          else ly + 16 - b.oamByte i 0)
        (if (b.oam.read (4 * i + 3)).getLsbD 5 = true then 7 - (x + 8 - b.oamByte i 1) else x + 8 - b.oamByte i 1) :=
  if_pos h

/-- The colour number of an entry at a pixel, from its four bytes. -/
theorem Bus.spriteColour_toNat (b : Bus) (ly x i : Nat) :
    (b.spriteColour (b.oamEntry i) ly x).toNat = b.entryColour ly x i := by
  have htile : (if b.lcd.lcdc.getLsbD 2 = true then (b.oam.read (4 * i + 2)) &&& 0xFE else b.oam.read (4 * i + 2)).toNat =
      if b.lcd.spriteRows = 16 then b.oamByte i 2 / 2 * 2 else b.oamByte i 2 := by
    simp only [apply_ite BitVec.toNat, and_FE_toNat, b.lcd.spriteRows_eq_sixteen_iff]
    rfl
  have hattr (k : Nat) : ((b.oam.read (4 * i + 3)).getLsbD k = true) = (b.oamByte i 3 / 2 ^ k % 2 = 1) := by
    rw [getLsbD_eq_decide, decide_eq_true_eq]
    rfl
  unfold Bus.entryColour
  by_cases h : b.oamByte i 1 ≤ x + 8 ∧ x + 8 < b.oamByte i 1 + 8
  · rw [b.spriteColour_of_reached ly h, if_pos h, Bus.tilePixel_toNat, htile]
    simp only [hattr]
    rfl
  · have hcolour : b.spriteColour (b.oamEntry i) ly x = 0 := if_neg h
    rw [hcolour, if_neg h]
    rfl

/-! ### The sprites of a line (R476) -/

theorem mem_take_filter_singleton (p : Nat → Bool) (k n i : Nat) :
    i ∈ ([n].filter p).take k ↔ i = n ∧ p n = true ∧ 0 < k := by
  cases hp : p n <;> cases k <;> simp [hp]

/-- The first `k` of the numbers below `n` that have a property: those with fewer than `k` before them. -/
theorem mem_take_filter_range (p : Nat → Bool) (k n i : Nat) :
    i ∈ ((List.range n).filter p).take k ↔ i < n ∧ p i = true ∧ (List.range i).countP p < k := by
  induction n with
  | zero => simp
  | succ n ih =>
    rw [List.range_succ, List.filter_append, List.take_append, List.mem_append, ih, ← List.countP_eq_length_filter,
      mem_take_filter_singleton, Nat.sub_pos_iff_lt]
    rcases eq_or_ne i n with rfl | hne
    · simp
    · have hlt : i < n + 1 ↔ i < n := by omega
      simp [hne, hlt]

/-- The numbers of the entries that are considered on a line, in OAM order. -/
def Bus.considered (b : Bus) (ly : Nat) : List Nat := ((List.range 40).filter (b.entryOnLine ly)).take 10

theorem Bus.considered_pairwise (b : Bus) (ly : Nat) : (b.considered ly).Pairwise (· < ·) :=
  (List.pairwise_lt_range.filter _).sublist (List.take_sublist _ _)

theorem Bus.lineSprites_eq (b : Bus) (ly : Nat) : b.lineSprites ly = (b.considered ly).map b.oamEntry := by
  have hline : (fun s : Sprite => decide (s.y ≤ ly + 16) && decide (ly + 16 < s.y + b.lcd.spriteHeight)) ∘ b.sprite =
      b.entryOnLine ly := by
    funext i
    exact (Bool.decide_and _ _).symm
  rw [Bus.lineSprites, Bus.considered, List.filter_map, hline, ← List.map_take]
  rfl

/-! ### The sprite that shows (R476) -/

/-- `i` shows among a list of sprites: opaque, with no opaque one of smaller X, and none of the same X before it. -/
def Bus.Shows (b : Bus) (ly x : Nat) (sprites : List Sprite) (i : Sprite) : Prop :=
  ∃ before after : List Sprite, sprites = before ++ i :: after ∧ b.spriteColour i ly x ≠ 0 ∧
    (∀ j ∈ before, b.spriteColour j ly x ≠ 0 → i.x < j.x) ∧ (∀ j ∈ after, b.spriteColour j ly x ≠ 0 → i.x ≤ j.x)

section
variable {b : Bus} {ly x : Nat} {sprites : List Sprite} {i s : Sprite}

/-- No opaque sprite of the list has a smaller X than the one that shows. -/
theorem Bus.Shows.le (h : b.Shows ly x sprites i) {j : Sprite} (hj : j ∈ sprites) (hopaque : b.spriteColour j ly x ≠ 0) :
    i.x ≤ j.x := by
  obtain ⟨before, after, rfl, -, hbefore, hafter⟩ := h
  rcases List.mem_append.mp hj with hj | hj
  · exact (hbefore j hj hopaque).le
  · rcases List.mem_cons.mp hj with rfl | hj
    · exact le_rfl
    · exact hafter j hj hopaque

theorem Bus.Shows.mem (h : b.Shows ly x sprites i) : i ∈ sprites ∧ b.spriteColour i ly x ≠ 0 := by
  obtain ⟨before, after, rfl, hopaque, -, -⟩ := h
  exact ⟨by simp, hopaque⟩

/-- One more sprite that is transparent there or of no smaller X changes nothing. -/
theorem Bus.Shows.append (h : b.Shows ly x sprites i) (hs : b.spriteColour s ly x ≠ 0 → i.x ≤ s.x) :
    b.Shows ly x (sprites ++ [s]) i := by
  obtain ⟨before, after, rfl, hopaque, hbefore, hafter⟩ := h
  refine ⟨before, after ++ [s], by simp, hopaque, hbefore, fun j hj => ?_⟩
  rcases List.mem_append.mp hj with hj | hj
  · exact hafter j hj
  · rwa [List.mem_singleton.mp hj]

/-- One more opaque sprite shows where every opaque one before it has a larger X. -/
theorem Bus.shows_last (hopaque : b.spriteColour s ly x ≠ 0) (h : ∀ j ∈ sprites, b.spriteColour j ly x ≠ 0 → s.x < j.x) :
    b.Shows ly x (sprites ++ [s]) s :=
  ⟨sprites, [], rfl, hopaque, h, fun _ hj => absurd hj List.not_mem_nil⟩

end

/-- The loop over the sprites finds the one that shows, or that none is opaque. -/
theorem Bus.foldl_betterSprite (b : Bus) (ly x : Nat) (sprites : List Sprite) :
    match sprites.foldl (b.betterSprite ly x) none with
    | none => ∀ j ∈ sprites, b.spriteColour j ly x = 0
    | some i => b.Shows ly x sprites i := by
  induction sprites using List.reverseRecOn with
  | nil => exact fun _ hj => absurd hj List.not_mem_nil
  | append_singleton sprites s ih =>
    rw [List.foldl_append, List.foldl_cons, List.foldl_nil]
    generalize sprites.foldl (b.betterSprite ly x) none = best at ih
    unfold Bus.betterSprite
    by_cases hs : b.spriteColour s ly x = 0
    · rw [if_pos hs]
      cases best with
      | none => exact List.forall_mem_append.mpr ⟨ih, List.forall_mem_singleton.mpr hs⟩
      | some t => exact Bus.Shows.append ih (fun h => absurd hs h)
    · rw [if_neg hs]
      cases best with
      | none => exact Bus.shows_last hs (fun j hj h => absurd (ih j hj) h)
      | some t =>
        dsimp only
        split_ifs with hlt
        · exact Bus.shows_last hs (fun j hj h => hlt.trans_le (Bus.Shows.le ih hj h))
        · exact Bus.Shows.append ih (fun _ => not_lt.mp hlt)

theorem Bus.spriteAt_of_off {b : Bus} (off : b.lcd.lcdc.getLsbD 1 = false) (sprites : List Sprite) (ly x : Nat) :
    b.spriteAt sprites ly x = none := by
  simp only [Bus.spriteAt, off]
  rfl

theorem Bus.spriteAt_of_on {b : Bus} (on : b.lcd.lcdc.getLsbD 1 = true) (sprites : List Sprite) (ly x : Nat) :
    b.spriteAt sprites ly x = sprites.foldl (b.betterSprite ly x) none := if_pos on

/-- Which sprite is found at a pixel, and when none is. -/
theorem Bus.spriteAt_spec (b : Bus) (sprites : List Sprite) (ly x : Nat) :
    (∀ i, b.spriteAt sprites ly x = some i → b.lcd.lcdc.getLsbD 1 = true ∧ b.Shows ly x sprites i) ∧
    (b.spriteAt sprites ly x = none ↔
      b.lcd.lcdc.getLsbD 1 = false ∨ ∀ j ∈ sprites, b.spriteColour j ly x = 0) := by
  cases hon : b.lcd.lcdc.getLsbD 1 with
  | false => simp [Bus.spriteAt_of_off hon]
  | true =>
    have hloop := b.foldl_betterSprite ly x sprites
    rw [Bus.spriteAt_of_on hon]
    cases hbest : sprites.foldl (b.betterSprite ly x) none with
    | none =>
      rw [hbest] at hloop
      exact ⟨by simp, iff_of_true rfl (.inr hloop)⟩
    | some i =>
      rw [hbest] at hloop
      obtain ⟨hmem, hopaque⟩ := Bus.Shows.mem hloop
      refine ⟨fun j hj => ⟨rfl, Option.some.inj hj ▸ hloop⟩, iff_of_false (by simp) fun h => ?_⟩
      exact hopaque (h.resolve_left (by decide) i hmem)

/-- Settles O51: the line's sprites by their numbers in OAM, the one that shows by the loop over them. -/
theorem spritePriority : Obligations.SpritePriority := by
  intro b ly x
  obtain ⟨hsome, hnone⟩ := b.spriteAt_spec (b.lineSprites ly) ly x
  exact ⟨⟨b.considered ly, b.considered_pairwise ly, List.length_take_le _ _, fun i => mem_take_filter_range _ _ _ _,
    b.lineSprites_eq ly⟩, fun i => b.spriteColour_toNat ly x i, hsome, hnone⟩

end Sys2Proof.Machine

/-!
# The renderer, publication, and the host's view

The statement about the rendered line (60_exceptions.md sections 8 and 9, R474, R475, R478, R479): the colour and the shade of a
pixel on numbers, the row they make, and the published frame as the host reads it.
-/

namespace Sys2Proof.Machine

/-! ### Background and window on numbers (R474, R475, R479) -/

/-- The address of a tile of background or window, unsigned from the start of VRAM or signed around its byte 0x1000. -/
theorem Lcd.bgTileAddr_eq (d : Lcd) (index : Byte) : d.bgTileAddr index.toNat =
    0x8000 + if d.lcdc.getLsbD 4 then 16 * index.toNat else ((0x1000 : Int) + 16 * index.toInt).toNat := by
  have hindex := index.isLt
  unfold Lcd.bgTileAddr
  cases d.lcdc.getLsbD 4 with
  | true => rfl
  | false =>
    rw [BitVec.toInt_eq_toNat_cond]
    simp only [Bool.false_eq_true, if_false]
    split_ifs <;> omega

theorem tileMapBase_eq (upper : Bool) : tileMapBase upper = 0x8000 + if upper then 0x1C00 else 0x1800 := by
  cases upper <;> rfl

/-- The colour number at plane coordinates, of the tile that the map names there. -/
theorem Bus.mapPixel_toNat (b : Bus) (upper : Bool) (px py : Nat) :
    (b.mapPixel (tileMapBase upper) px py).toNat =
      let index := b.vram.read ((if upper then 0x1C00 else 0x1800) + 32 * (py / 8) + px / 8)
      b.tileColour (if b.lcd.lcdc.getLsbD 4 then 16 * index.toNat else ((0x1000 : Int) + 16 * index.toInt).toNat)
        (py % 8) (px % 8) := by
  rw [Bus.mapPixel, tileMapBase_eq]
  simp only [Nat.add_assoc, Bus.vramByte_eq, Lcd.bgTileAddr_eq, Bus.tilePixel_toNat]

/-- Where the window is active (R475). -/
theorem Lcd.windowActive_iff (d : Lcd) (ly : Nat) : d.windowActive ly = true ↔
    d.lcdc.getLsbD 0 = true ∧ d.lcdc.getLsbD 5 = true ∧ d.wy.toNat ≤ ly ∧ d.wx.toNat ≤ 166 := by
  simp only [Lcd.windowActive, Bool.and_eq_true, decide_eq_true_eq, and_assoc]

theorem Lcd.windowCovers_eq (d : Lcd) (ly x : Nat) : d.windowCovers ly x = d.windowShows ly x := by
  simp only [Lcd.windowCovers, Lcd.windowActive, Lcd.windowShows, Bool.decide_and, Bool.and_assoc]

/-- The colour number of background and window at a pixel. -/
theorem Bus.bgColour_toNat (b : Bus) (ly x : Nat) : (b.bgColour ly x).toNat = b.planeColour ly x := by
  unfold Bus.bgColour Bus.planeColour
  simp only [Lcd.windowCovers_eq]
  cases hon : b.lcd.lcdc.getLsbD 0 with
  | false =>
    have hwindow : b.lcd.windowShows ly x = false := by simp only [Lcd.windowShows, hon, Bool.false_and]
    simp [hwindow]
  | true => cases hwindow : b.lcd.windowShows ly x <;> simp [Bus.mapPixel_toNat]

/-- The shade of background and window at a pixel (R474). -/
theorem Bus.bgShade_toNat (b : Bus) (ly x : Nat) : (b.bgShade ly x).toNat =
    if b.lcd.lcdc.getLsbD 0 = true then shadeNat b.lcd.bgp (b.planeColour ly x) else 0 := by
  unfold Bus.bgShade
  split
  · rw [paletteShade_toNat, Bus.bgColour_toNat]
  · rfl

/-- Whether a sprite stands behind the plane at a pixel (R474). -/
theorem Bus.behind_iff (b : Bus) (s : Sprite) (ly x : Nat) :
    (s.attr.getLsbD 7 && b.bgColour ly x != 0) = true ↔ s.attr.getLsbD 7 = true ∧ b.planeColour ly x ≠ 0 := by
  rw [← Bus.bgColour_toNat, Bool.and_eq_true, bne_iff_ne, ne_eq, ne_eq, BitVec.toNat_eq]
  rfl

/-- The shade of a pixel: the sprite's that shows there, or the plane's (R474). -/
theorem Bus.pixel_toNat (b : Bus) (ly x : Nat) : (b.pixel (b.lineSprites ly) ly x).toNat = b.shownShade ly x := by
  unfold Bus.pixel Bus.shownShade
  rw [← Bus.bgShade_toNat]
  cases b.spriteAt (b.lineSprites ly) ly x with
  | none => rfl
  | some s =>
    simp only [Bus.behind_iff]
    split
    · rfl
    · exact paletteShade_toNat _ _

theorem Bus.renderRow_getD (b : Bus) (ly : Nat) {x : Nat} (hx : x < 160) :
    ((b.renderRow ly).getD x 0).toNat = b.shownShade ly x := by
  rw [List.getD_eq_getElem _ _ (by rwa [b.renderRow_length]), ← Bus.pixel_toNat]
  simp [Bus.renderRow]

/-! ### The frame under construction and the published one (R474, R478) -/

theorem getD_set {α : Type} (l : List α) (i j : Nat) (a d : α) (hi : i < l.length) :
    (l.set i a).getD j d = if j = i then a else l.getD j d := by
  rw [List.getD_eq_getElem?_getD, List.getElem?_set, List.getD_eq_getElem?_getD]
  rcases eq_or_ne j i with rfl | hne
  · simp [hi]
  · simp [hne, hne.symm]

/-- The dot that enters pixel-transfer renders the line. -/
theorem displayDot_transfer {b : Bus} (on : b.lcd.enabled = true) (visible : b.lcd.ly.toNat < 144) (dot : b.lcd.dot = 79) :
    (displayDot b).lcd = { b.lcd with
      dot := 80, mode := .transfer, fbWork := b.lcd.fbWork.set b.lcd.ly.toNat (b.renderRow b.lcd.ly.toNat),
      windowLine := if b.lcd.windowActive b.lcd.ly.toNat then b.lcd.windowLine + 1 else b.lcd.windowLine } := by
  obtain ⟨d, v, s, heq, heffect⟩ := displayDot_effect b
  rw [heq, Bus.withDisplay_lcd]
  cases heffect with
  | off off => exact absurd on (by simp [off])
  | within _ _ same => exact absurd dot (same visible).1
  | transfer => rfl
  | hblank _ _ dot' => omega
  | visibleLine _ _ dot' => omega
  | vblank _ _ dot' => omega
  | vblankLine _ _ _ dot' => omega
  | frame _ _ dot' => omega

/-- The dot that enters line 144 publishes the frame under construction. -/
theorem displayDot_publishes {b : Bus} (on : b.lcd.enabled = true) (last : b.lcd.ly = 143) (dot : b.lcd.dot = 455) :
    (displayDot b).lcd = { b.lcd with
      dot := 0, ly := 144, mode := .vblank, fbFront := b.lcd.fbWork, generation := b.lcd.generation + 1 } := by
  obtain ⟨d, v, s, heq, heffect⟩ := displayDot_effect b
  rw [heq, Bus.withDisplay_lcd]
  cases heffect with
  | off off => exact absurd on (by simp [off])
  | within _ more => exact absurd dot more
  | transfer _ _ dot' => omega
  | hblank _ _ dot' => omega
  | visibleLine _ visible => bv_omega
  | vblank => rfl
  | vblankLine _ hidden => bv_omega
  | frame _ last' => bv_omega

/-- No other dot publishes. -/
theorem displayDot_keeps_published {b : Bus} (h : ¬ (b.lcd.enabled = true ∧ b.lcd.ly = 143 ∧ b.lcd.dot = 455)) :
    (displayDot b).lcd.fbFront = b.lcd.fbFront ∧ (displayDot b).lcd.generation = b.lcd.generation := by
  obtain ⟨d, v, s, heq, heffect⟩ := displayDot_effect b
  rw [heq, Bus.withDisplay_lcd]
  cases heffect with
  | vblank on last dot => exact absurd ⟨on, last, dot⟩ h
  | _ => exact ⟨rfl, rfl⟩

/-! ### The host's view (R478, R490) -/

section
variable {α : Type} {w : Nat} {rows : List (List α)}

theorem length_flatten_of_rows (h : ∀ row ∈ rows, row.length = w) : rows.flatten.length = rows.length * w := by
  rw [List.length_flatten, List.map_congr_left h, List.map_const', List.sum_replicate, smul_eq_mul]

/-- Rows of one length, one after another: row-major order. -/
theorem getD_flatten_of_rows (h : ∀ row ∈ rows, row.length = w) (y : Nat) {x : Nat} (hx : x < w) (a : α) :
    rows.flatten.getD (y * w + x) a = (rows.getD y []).getD x a := by
  induction rows generalizing y with
  | nil => simp
  | cons row rows ih =>
    obtain ⟨hrow, hrows⟩ := List.forall_mem_cons.mp h
    rw [List.flatten_cons]
    cases y with
    | zero => rw [Nat.zero_mul, Nat.zero_add, List.getD_append _ _ _ _ (by omega), List.getD_cons_zero]
    | succ y =>
      have hpast : (y + 1) * w + x = row.length + (y * w + x) := by rw [hrow, Nat.succ_mul]; omega
      rw [hpast, List.getD_append_right _ _ _ _ (by omega), Nat.add_sub_cancel_left, ih hrows, List.getD_cons_succ]

end

theorem PixelMap.pixel_eq (p : PixelMap) (shade : BitVec 2) : PixelMap.pixel p shade = packedPixel p shade.toNat := by
  have hshade : shade = 0 ∨ shade = 1 ∨ shade = 2 ∨ shade = 3 := by
    revert shade
    decide
  rcases hshade with rfl | rfl | rfl | rfl <;> rfl

theorem getD_map_of_lt {α β : Type} (f : α → β) {l : List α} {n : Nat} (h : n < l.length) (a : α) (b : β) :
    (l.map f).getD n b = f (l.getD n a) := by
  rw [List.getD_eq_getElem _ _ (by simpa using h), List.getElem_map, List.getD_eq_getElem _ _ h]

/-- The host's view of a published frame of the right shape. -/
theorem frameBuffer_spec {s : State} (h : s.bus.lcd.fbFront.shaped) :
    (frameBuffer s).1.length = 160 * 144 ∧ (frameBuffer s).2 = s.bus.lcd.generation ∧
    ∀ x y : Nat, x < 160 → y < 144 →
      (frameBuffer s).1.getD (y * 160 + x) 0 =
        packedPixel s.params.pixels ((s.bus.lcd.fbFront.getD y []).getD x 0).toNat := by
  obtain ⟨hlen, hrows⟩ := h
  have hflat : s.bus.lcd.fbFront.flatten.length = 144 * 160 := by rw [length_flatten_of_rows hrows, hlen]
  refine ⟨by rw [frameBuffer, List.length_map, hflat], rfl, fun x y hx hy => ?_⟩
  rw [frameBuffer, getD_map_of_lt _ (by omega) 0, PixelMap.pixel_eq, getD_flatten_of_rows hrows y hx]

/-- Settles O50: the row by its pixels on numbers, publication by what a dot can do, the host's view by the frame's shape. -/
theorem renderedLine : Obligations.RenderedLine := by
  refine ⟨fun b on visible dot hwork => ?_, fun b => ⟨fun ⟨on, last, dot⟩ => ?_, displayDot_keeps_published⟩,
    fun s => frameBuffer_spec⟩
  · rw [displayDot_transfer on visible dot]
    refine ⟨fun row x _ hx => ?_, ?_, rfl, rfl, rfl⟩
    · rw [getD_set _ _ _ _ _ (by rwa [hwork.1])]
      split_ifs with hrow
      · rw [hrow, b.renderRow_getD _ hx]
      · rfl
    · simp only [Lcd.windowActive_iff]
  · rw [displayDot_publishes on last dot]
    exact ⟨rfl, rfl, rfl⟩

end Sys2Proof.Machine

/-!
# Steps: what runs, what raises, what is dispatched, and the run states

The statements about the step (60_exceptions.md sections 1 to 5 and 9): the instruction that runs and what follows it, the host's
events before it, the exception, interrupt dispatch, HALTED and STOPPED.
-/

namespace Sys2Proof.Machine

/-! ### The instruction at PC (R421, R441, R442) -/

/-- The bytes that the fetch reads: byte 0 at PC, twice while a HALT bug is pending. -/
def State.codeBytes (s : State) : List Byte :=
  if s.ctl.haltBugPending then [s.read s.pc, s.read s.pc, s.read (s.pc + 1)]
  else [s.read s.pc, s.read (s.pc + 1), s.read (s.pc + 2)]

theorem State.codeBytes_eq (s : State) : s.codeBytes = [s.read s.pc, s.operandByte 0, s.operandByte 1] := by
  unfold State.codeBytes State.operandByte State.opcodeStep
  cases s.ctl.haltBugPending
  · simp [BitVec.add_assoc]
  · simp

theorem lengthOfByte0_le (b : Byte) : lengthOfByte0 b ≤ 3 := by
  unfold lengthOfByte0
  split_ifs <;> omega

/-- The instruction at PC is the one that those bytes decode to. -/
theorem State.decode_codeBytes (s : State) :
    decode s.codeBytes = .ok (s.fetchInstr, s.codeBytes.drop (lengthOfByte0 (s.read s.pc))) := by
  rw [State.codeBytes_eq]
  exact if_neg (not_lt.mpr (lengthOfByte0_le _))

/-! ### What follows an instruction (R400, R416, R422, R440) -/

/-- What follows an instruction that raised nothing, in the words of the claim. -/
theorem State.afterExecute_of_not_fatal {t : State} (n : Nat) (h : t.ctl.runState ≠ .fatal) :
    t.afterExecute n = { t with
      ctl := { t.ctl with ime := t.ctl.ime || decide (t.ctl.eiDelay = 1), eiDelay := if t.ctl.eiDelay = 2 then 1 else 0 },
      bus := if t.ctl.runState = .stopped then t.bus else displayAdvance n (timerAdvance n t.bus) } := by
  have hbook : t.eiBookkeeping = { t with
      ctl := { t.ctl with ime := t.ctl.ime || decide (t.ctl.eiDelay = 1), eiDelay := if t.ctl.eiDelay = 2 then 1 else 0 } } := by
    obtain ⟨cpu, ⟨ime, eiDelay, run, bug, record⟩, bus, params, input⟩ := t
    match eiDelay with
    | 0 => simp [State.eiBookkeeping]
    | 1 => simp [State.eiBookkeeping]
    | 2 => simp [State.eiBookkeeping]
  unfold State.afterExecute
  rw [if_neg h, hbook]
  dsimp only
  split_ifs <;> rfl

/-- Settles O4: the bytes at PC decode to the instruction that is fetched; what follows is the bookkeeping and the devices. -/
theorem stepRunsDecodedInstruction : Obligations.StepRunsDecodedInstruction := by
  intro s i rest hs hdecode
  have hfetch : s.fetchInstr = i := (Prod.mk.inj (Except.ok.inj (s.decode_codeBytes.symm.trans hdecode))).1
  refine ⟨fun t ht => ?_, fun t n => State.afterExecute_of_fatal t n, fun t n => State.afterExecute_of_not_fatal n⟩
  subst hfetch
  exact step_of_aboutToExecute hs ht

/-! ### The exception (R400 to R402) -/

theorem haltCpu_not_fatal {s : State} (h : s.ctl.runState ≠ .fatal) : (haltCpu s).ctl.runState ≠ .fatal := by
  unfold haltCpu
  dsimp only
  split
  · exact h
  · simp

/-- The instructions of R401 raise the exception, and no other does. -/
theorem means_fatal_iff {i : Instr} {f : State → State} (h : Means i f) {s : State} (hs : s.ctl.runState ≠ .fatal) :
    (f s).ctl.runState = .fatal ↔
      (∃ op : IllegalByte, i = Instr.illegal op) ∨ ((∃ n : Byte, i = .stop n) ∧ s.params.stopPolicy = .fatal) := by
  constructor
  · intro hfatal
    by_cases hi : ChangesControl i
    · cases hi with
      | di => exact absurd hfatal (means_unique h .di s ▸ hs)
      | ei => exact absurd hfatal (means_unique h .ei s ▸ hs)
      | reti => exact absurd hfatal (means_unique h .reti s ▸ hs)
      | halt => exact absurd (means_unique h .halt s ▸ hfatal) (haltCpu_not_fatal hs)
      | stop n =>
        cases hpolicy : s.params.stopPolicy with
        | fatal => exact .inr ⟨⟨n, rfl⟩, rfl⟩
        | lowPower =>
          rw [means_unique h (.stop n) s, stopCpu_of_lowPower hpolicy] at hfatal
          cases hfatal
      | illegal op => exact .inl ⟨op, rfl⟩
    · rw [means_ctl h hi s] at hfatal
      exact absurd hfatal hs
  · rintro (⟨op, rfl⟩ | ⟨⟨n, rfl⟩, hpolicy⟩)
    · rw [means_unique h (.illegal op) s]
      rfl
    · rw [means_unique h (.stop n) s, stopCpu_of_fatal hpolicy]
      rfl

/-- Settles O31: over the families, by what each leaves of the run state. -/
theorem onlyNamedOpcodesAreFatal : Obligations.OnlyNamedOpcodesAreFatal := by
  intro i s t ht hs
  obtain ⟨f, hm⟩ := means_exists i
  obtain rfl := next_of_means hm ht
  exact means_fatal_iff hm hs

/-- An illegal byte at PC is fetched as its own instruction. -/
theorem fetchInstr_of_illegal {s : State} {op : IllegalByte} (h : s.read s.pc = op.byte) : s.fetchInstr = Instr.illegal op := by
  unfold State.fetchInstr
  rw [h, decodeBytes_illegal]

/-- A step whose instruction raises the exception ends there and reports it (R400). -/
theorem step_raises {s : State} (hs : AboutToExecute s) {kind : FatalKind} {op : Byte}
    (h : exec s.fetchInstr s = .next (s.raiseFatal kind s.pc op)) :
    ∃ t, step s = .next t ∧ RaisesFatal kind op s t ∧ stepReport s = .fatal (some ⟨kind, s.pc, op⟩) := by
  refine ⟨s.raiseFatal kind s.pc op, ?_, raiseFatal_raisesFatal kind op s, ?_⟩
  · rw [step_of_aboutToExecute hs h, State.afterExecute_of_fatal _ _ rfl]
  · rw [stepReport_of_aboutToExecute hs, executeReport_of_fatal h rfl]
    rfl

theorem stepReport_of_fatal {s : State} (h : s.ctl.runState = .fatal) : stepReport s = .fatal s.ctl.fatalRecord := if_pos h

/-- Settles O42: FATAL by the first test of a step, the two ways into it by the instructions that raise the exception. -/
theorem fatalStateIsFinal : Obligations.FatalStateIsFinal := by
  refine ⟨fun s h => ⟨step_of_fatal h, stepReport_of_fatal h⟩, fun s hs hb => ?_, fun s hs hb hpolicy => ?_⟩
  · obtain ⟨op, hop⟩ := (exists_illegalByte_iff _).mpr hb
    have hexec : exec s.fetchInstr s = .next (s.raiseFatal .invalidOpcode s.pc op.byte) :=
      fetchInstr_of_illegal hop.symm ▸ exec_of_means (.illegal op) s
    rw [← hop]
    exact step_raises hs hexec
  · have hexec : exec s.fetchInstr s = .next (s.raiseFatal .unimplementedOpcode s.pc 0x10) := by
      rw [fetchInstr_of_stop hb, ← stopCpu_of_fatal hpolicy]
      exact exec_of_means (.stop _) s
    exact step_raises hs hexec

/-! ### A step with no event before it (R411, R413, R420, R422, R441) -/

theorem hostPhase_of_silent {s : State} (h : s.input = []) : hostPhase s = s := by
  unfold hostPhase
  rw [h]

section
variable {s : State}

/-- How a step of a running or halted CPU begins. -/
theorem startStep_of_live (hrun : s.ctl.runState = .running ∨ s.ctl.runState = .halted) (hsilent : s.input = []) :
    startStep s = if s.wake.dispatches then .complete (s.wake.dispatchInterrupt.advance 20)
      else if s.wake.ctl.runState = .halted then .complete (s.wake.advance 4) else .execute s.wake := by
  unfold startStep
  rw [hostPhase_of_silent hsilent]
  rcases hrun with h | h <;> simp [h]

/-- What it reports. -/
theorem stepReport_of_live (hrun : s.ctl.runState = .running ∨ s.ctl.runState = .halted) (hsilent : s.input = []) :
    stepReport s = if s.wake.dispatches then .cycles 20
      else if s.wake.ctl.runState = .halted then .cycles 4 else executeReport s.wake := by
  unfold stepReport
  rw [hostPhase_of_silent hsilent]
  rcases hrun with h | h <;> simp [h]

theorem step_of_complete {t : State} (h : startStep s = .complete t) : step s = .next t := by
  unfold step
  rw [h]

/-- A step depends on how it begins alone. -/
theorem step_congr {s' : State} (h : startStep s = startStep s') : step s = step s' := by
  unfold step
  rw [h]

/-- With a candidate, a running or halted CPU runs. -/
theorem State.wake_of_candidate (hrun : s.ctl.runState = .running ∨ s.ctl.runState = .halted)
    (h : s.bus.anyCandidate = true) : s.wake = { s with ctl := { s.ctl with runState := .running } } := by
  have hpending := (Bus.pending_ne_zero_iff s.bus).mpr h
  unfold State.wake
  rcases hrun with hr | hr
  · rw [if_neg (by simp [hr]), ← hr]
  · rw [if_pos ⟨hr, hpending⟩]

theorem Bus.pending_eq_zero {b : Bus} (h : b.anyCandidate = false) : b.pending = 0 := by
  by_contra hne
  simp [(Bus.pending_ne_zero_iff b).mp hne] at h

theorem State.wake_of_quiet (h : s.bus.anyCandidate = false) : s.wake = s := by
  unfold State.wake
  rw [if_neg (by simp [Bus.pending_eq_zero h])]

end

/-! ### Interrupt dispatch (R411 to R413) -/

/-- The interrupt taken is the candidate with none below it (R412). -/
theorem interruptChoice_eq {pending : BitVec 5} {k : Nat} (hk : pending.getLsbD k = true)
    (hleast : ∀ j < k, pending.getLsbD j = false) : interruptChoice pending = k := by
  have hlt : k < 5 := by
    by_contra hge
    rw [BitVec.getLsbD_of_ge _ _ (by omega)] at hk
    cases hk
  unfold interruptChoice
  interval_cases k
  · simp only [hk, if_true]
  · simp only [hk, hleast 0 (by omega), if_true, Bool.false_eq_true, if_false]
  · simp only [hk, hleast 0 (by omega), hleast 1 (by omega), if_true, Bool.false_eq_true, if_false]
  · simp only [hk, hleast 0 (by omega), hleast 1 (by omega), hleast 2 (by omega), if_true, Bool.false_eq_true, if_false]
  · simp only [hleast 0 (by omega), hleast 1 (by omega), hleast 2 (by omega), hleast 3 (by omega), Bool.false_eq_true,
      if_false]

theorem Bus.candidate_lt {b : Bus} {k : Nat} (h : b.candidate k = true) : k < 5 := by
  simp only [Bus.candidate, Bool.and_eq_true, decide_eq_true_eq] at h
  exact h.1.1

theorem Bus.anyCandidate_of {b : Bus} {k : Nat} (h : b.candidate k = true) : b.anyCandidate = true :=
  List.any_eq_true.mpr ⟨k, List.mem_range.mpr (Bus.candidate_lt h), h⟩

/-- Settles O43: the step begins by the dispatch of the awake state, which pushes PC and takes the least candidate. -/
theorem interruptDispatch : Obligations.InterruptDispatch := by
  intro s k hrun hsilent hime hk hleast
  have hany := Bus.anyCandidate_of hk
  have hwake := State.wake_of_candidate hrun hany
  have hchoice : interruptChoice s.bus.pending = k :=
    interruptChoice_eq (by rw [Bus.pending_candidate, hk]) (fun j hj => by rw [Bus.pending_candidate, hleast j hj])
  have hdispatches : s.wake.dispatches = true := by
    rw [hwake]
    exact Bool.and_eq_true_iff.mpr ⟨hime, bne_iff_ne.mpr ((Bus.pending_ne_zero_iff s.bus).mpr hany)⟩
  have hstart : startStep s = .complete (s.wake.dispatchInterrupt.advance 20) := by
    rw [startStep_of_live hrun hsilent, if_pos hdispatches]
  refine ⟨_, s.wake.dispatchInterrupt, step_of_complete hstart, rfl, ?_, rfl, ?_, ?_, ?_, ?_, ?_⟩
  · rw [hwake, State.dispatchInterrupt_effect, ← hchoice]
    exact ⟨storesTwo_of_bus rfl, rfl, fun r _ => by cases r <;> rfl, rfl⟩
  · rw [hwake, ← hchoice]
    rfl
  · rw [hwake]
    rfl
  · rw [hwake]
    rfl
  · rw [hwake]
    rfl
  · rw [stepReport_of_live hrun hsilent, if_pos hdispatches]

/-! ### Presses and releases (R460, R461) -/

/-- Whether a button's group is selected, by the select bit of the group. -/
theorem Joypad.selected_eq (j : Joypad) (i : Fin 8) : j.selected i = !j.p1Select.getLsbD (if i.val < 4 then 0 else 1) := by
  unfold Joypad.selected
  split <;> rfl

section
variable {s : State} {button : Button}

/-- A press of a pressed button changes nothing. -/
theorem pressButton_of_pressed (h : s.bus.joypad.buttons.getLsbD button.bit = true) : pressButton button s = s := if_pos h

/-- A press of a released button whose group is not selected sets its bit. -/
theorem pressButton_of_unselected (h : s.bus.joypad.buttons.getLsbD button.bit = false)
    (hselect : s.bus.joypad.p1Select.getLsbD (if button.bit.val < 4 then 0 else 1) = true) :
    pressButton button s = { s with bus := { s.bus with
      joypad := { s.bus.joypad with buttons := s.bus.joypad.buttons ||| (1#8 <<< button.bit.val) } } } := by
  have hs : s.bus.joypad.selected button.bit = false := by rw [Joypad.selected_eq, hselect]; rfl
  unfold pressButton
  simp only [h, hs]
  rfl

/-- One whose group is selected also requests the input interrupt, and ends STOPPED. -/
theorem pressButton_of_selected (h : s.bus.joypad.buttons.getLsbD button.bit = false)
    (hselect : s.bus.joypad.p1Select.getLsbD (if button.bit.val < 4 then 0 else 1) = false) :
    pressButton button s = { s with
      bus := { s.bus with
        joypad := { s.bus.joypad with buttons := s.bus.joypad.buttons ||| (1#8 <<< button.bit.val) },
        intFlag := s.bus.intFlag ||| 0b10000 },
      ctl := { s.ctl with runState := if s.ctl.runState = .stopped then .running else s.ctl.runState } } := by
  have hs : s.bus.joypad.selected button.bit = true := by rw [Joypad.selected_eq, hselect]; rfl
  unfold pressButton
  simp only [h, hs]
  rfl

end

/-- Setting a clear bit and clearing it again changes nothing. -/
theorem or_and_not_shiftLeft {v : BitVec 8} {i : Nat} (h : v.getLsbD i = false) :
    (v ||| (1#8 <<< i)) &&& ~~~(1#8 <<< i) = v := by
  apply BitVec.eq_of_getLsbD_eq
  intro j hj
  simp only [← BitVec.twoPow_eq, BitVec.getLsbD_and, BitVec.getLsbD_or, BitVec.getLsbD_not, BitVec.getLsbD_twoPow, hj]
  rcases eq_or_ne i j with rfl | hne
  · simpa [hj] using h
  · simp [hne]

/-- Settles O52: a press by whether the button is released and its group selected. -/
theorem buttonEvents : Obligations.ButtonEvents := by
  intro s button
  refine ⟨pressButton_of_pressed, fun h => ⟨_, rfl, ?_⟩, rfl⟩
  have hread (t : State) (hb : t.bus.joypad.buttons = s.bus.joypad.buttons ||| (1#8 <<< button.bit.val))
      (hp : t.bus.joypad.p1Select = s.bus.joypad.p1Select) : (releaseButton button t).read 0xFF00 = s.read 0xFF00 := by
    have hjoypad : (releaseButton button t).bus.joypad = s.bus.joypad := by
      show Joypad.mk t.bus.joypad.p1Select (t.bus.joypad.buttons &&& ~~~(1#8 <<< button.bit.val)) = s.bus.joypad
      rw [hb, hp, or_and_not_shiftLeft h]
    exact congrArg Joypad.read hjoypad
  cases hselect : s.bus.joypad.p1Select.getLsbD (if button.bit.val < 4 then 0 else 1) with
  | true =>
    rw [pressButton_of_unselected h hselect]
    exact ⟨rfl, rfl, rfl, rfl, rfl, hread _ rfl rfl⟩
  | false =>
    rw [pressButton_of_selected h hselect]
    exact ⟨rfl, rfl, rfl, rfl, rfl, hread _ rfl rfl⟩

/-! ### HALTED and STOPPED (R420, R422) -/

/-- What an event makes of a stopped CPU: a press of a released button whose group is selected ends it. -/
theorem applyEvent_of_stopped {s : State} (event : HostEvent) (hs : s.ctl.runState = .stopped) :
    ((applyEvent s event).ctl.runState = .running ↔
      ∃ button : Button, event = .press button ∧ s.bus.joypad.buttons.getLsbD button.bit = false ∧
        s.bus.joypad.p1Select.getLsbD (if button.bit.val < 4 then 0 else 1) = false) ∧
    ((applyEvent s event).ctl.runState = .running ∨ (applyEvent s event).ctl.runState = .stopped) := by
  cases event with
  | release button => exact ⟨iff_of_false (by simp [applyEvent, releaseButton, hs]) (by simp), .inr hs⟩
  | press button =>
    change ((pressButton button s).ctl.runState = .running ↔ _) ∧
      ((pressButton button s).ctl.runState = .running ∨ (pressButton button s).ctl.runState = .stopped)
    cases hbutton : s.bus.joypad.buttons.getLsbD button.bit with
    | true =>
      rw [pressButton_of_pressed hbutton]
      refine ⟨iff_of_false (by simp [hs]) ?_, .inr hs⟩
      rintro ⟨_, ⟨rfl⟩, hreleased, -⟩
      exact absurd hreleased (by simp [hbutton])
    | false =>
      cases hselect : s.bus.joypad.p1Select.getLsbD (if button.bit.val < 4 then 0 else 1) with
      | true =>
        rw [pressButton_of_unselected hbutton hselect]
        refine ⟨iff_of_false (by simp [hs]) ?_, .inr hs⟩
        rintro ⟨_, ⟨rfl⟩, -, hselected⟩
        exact absurd hselected (by simp [hselect])
      | false =>
        rw [pressButton_of_selected hbutton hselect]
        exact ⟨iff_of_true (if_pos hs) ⟨button, rfl, hbutton, hselect⟩, .inl (if_pos hs)⟩

/-- Settles O44: by how the step of a halted CPU begins, with and without a candidate, and of a stopped one. -/
theorem haltedAndStoppedStates : Obligations.HaltedAndStoppedStates := by
  refine ⟨fun s hhalted hsilent hnone => ?_, fun s hhalted hsilent hany hime => ?_, fun s hstopped hsilent => ?_,
    fun s event hs => applyEvent_of_stopped event hs⟩
  · have hwake := State.wake_of_quiet hnone
    have hquiet : ¬ s.dispatches = true := by simp [State.dispatches, Bus.pending_eq_zero hnone]
    refine ⟨step_of_complete ?_, ?_⟩
    · rw [startStep_of_live (.inr hhalted) hsilent, hwake, if_neg hquiet, if_pos hhalted]
      rfl
    · rw [stepReport_of_live (.inr hhalted) hsilent, hwake, if_neg hquiet, if_pos hhalted]
  · have hwake := State.wake_of_candidate (.inr hhalted) hany
    generalize hrunning : ({ s with ctl := { s.ctl with runState := .running } } : State) = r at hwake
    have hr : AboutToExecute r := by
      subst hrunning
      exact ⟨rfl, hsilent, by simp [State.dispatches, hime]⟩
    have hwake' : r.wake = r := by
      subst hrunning
      exact State.wake_of_candidate (.inl rfl) hany
    refine ⟨step_congr ?_, hr⟩
    rw [startStep_of_live (.inr hhalted) hsilent, startStep_of_live (.inl hr.running) hr.silent, hwake, hwake']
  · have hhost := hostPhase_of_silent hsilent
    have hstart : startStep s = .complete s := by simp [startStep, hhost, hstopped]
    exact ⟨step_of_complete hstart, by simp [stepReport, hhost, hstopped]⟩

/-! ### The host's events before a step (R440, R490) -/

/-- No event depends on the input stream or changes it. -/
theorem applyEvent_input (s : State) (e : HostEvent) (x : List (List HostEvent)) :
    applyEvent { s with input := x } e = { applyEvent s e with input := x } := by
  cases e with
  | release button => rfl
  | press button =>
    show pressButton button { s with input := x } = { pressButton button s with input := x }
    unfold pressButton
    dsimp only
    split_ifs <;> rfl

theorem foldl_applyEvent_input (events : List HostEvent) (s : State) (x : List (List HostEvent)) :
    events.foldl applyEvent { s with input := x } = { events.foldl applyEvent s with input := x } := by
  induction events generalizing s with
  | nil => rfl
  | cons e events ih =>
    rw [List.foldl_cons, List.foldl_cons, applyEvent_input, ih]

/-- The states in which a step can begin, with another input stream. -/
def StepStart.withInput (x : List (List HostEvent)) : StepStart → StepStart
  | .complete t => .complete { t with input := x }
  | .execute t => .execute { t with input := x }

section
variable (s : State) (x : List (List HostEvent))

theorem State.wake_input : { s with input := x }.wake = { s.wake with input := x } := by
  unfold State.wake
  dsimp only
  split_ifs <;> rfl

theorem State.afterExecute_input (n : Nat) :
    { s with input := x }.afterExecute n = { s.afterExecute n with input := x } := by
  have hbook : { s with input := x }.eiBookkeeping = { s.eiBookkeeping with input := x } := by
    unfold State.eiBookkeeping
    dsimp only
    split <;> rfl
  unfold State.afterExecute
  rw [hbook]
  dsimp only
  split_ifs <;> rfl

/-- No instruction depends on the input stream or changes it. -/
theorem exec_input {i : Instr} {t : State} (h : exec i s = .next t) :
    exec i { s with input := x } = .next { t with input := x } := by
  obtain ⟨f, hm⟩ := means_exists i
  rw [exec_of_means hm, next_of_means hm h, means_input hm]

theorem executeReport_input : executeReport { s with input := x } = executeReport s := by
  obtain ⟨t, ht⟩ := exec_next s.fetchInstr s
  have ht' : exec { s with input := x }.fetchInstr { s with input := x } = .next { t with input := x } := exec_input s x ht
  unfold executeReport
  rw [ht, ht']
  rfl

end

section
variable {s u : State} {x : List (List HostEvent)}

/-- The same step from the state that the host's events lead to, but for the input that it leaves. -/
theorem startStep_of_hostPhase (hs : s.ctl.runState ≠ .fatal) (hu : u.ctl.runState ≠ .fatal) (hsilent : u.input = [])
    (h : hostPhase s = { u with input := x }) : startStep s = (startStep u).withInput x := by
  unfold startStep
  rw [if_neg hs, if_neg hu, h, hostPhase_of_silent hsilent]
  dsimp only
  rw [State.wake_input]
  simp only [apply_ite (StepStart.withInput x)]
  rfl

theorem stepReport_of_hostPhase (hs : s.ctl.runState ≠ .fatal) (hu : u.ctl.runState ≠ .fatal) (hsilent : u.input = [])
    (h : hostPhase s = { u with input := x }) : stepReport s = stepReport u := by
  unfold stepReport
  rw [if_neg hs, if_neg hu, h, hostPhase_of_silent hsilent]
  dsimp only
  rw [State.wake_input, executeReport_input]
  rfl

/-- A step that begins alike ends alike. -/
theorem step_of_withInput (h : startStep s = (startStep u).withInput x) :
    ∃ t, step u = .next t ∧ step s = .next { t with input := x } := by
  unfold step
  rw [h]
  cases startStep u with
  | complete t => exact ⟨t, rfl, rfl⟩
  | execute v =>
    obtain ⟨t, ht⟩ := exec_next v.fetchInstr v
    refine ⟨t.afterExecute (instrCycles v.fetchInstr v), by dsimp only; rw [ht]; rfl, ?_⟩
    have ht' : exec { v with input := x }.fetchInstr { v with input := x } = .next { t with input := x } := exec_input v x ht
    dsimp only [StepStart.withInput]
    rw [ht', completeStep, State.afterExecute_input]
    rfl

end

/-- Settles O5: the host's events lead to the same state but for the input, on which nothing of a step depends. -/
theorem hostEventsApplyBeforeTheStep : Obligations.HostEventsApplyBeforeTheStep := by
  intro s events later hs hinput
  have hhost : hostPhase s = { events.foldl applyEvent { s with input := [] } with input := later } := by
    rw [← foldl_applyEvent_input]
    unfold hostPhase
    rw [hinput]
  have hsilent : (events.foldl applyEvent { s with input := [] }).input = [] := by
    rw [foldl_applyEvent_input]
  have hu : (events.foldl applyEvent { s with input := [] }).ctl.runState ≠ .fatal := by
    obtain ⟨_, _, run, heq, hrun⟩ := hostPhase_effect s
    have hsame : (events.foldl applyEvent { s with input := [] }).ctl.runState = run :=
      congrArg (·.ctl.runState) (hhost.symm.trans heq)
    rw [hsame]
    rcases hrun with rfl | ⟨-, rfl⟩
    · exact hs
    · simp
  exact ⟨step_of_withInput (startStep_of_hostPhase hs hu hsilent hhost), stepReport_of_hostPhase hs hu hsilent hhost⟩

end Sys2Proof.Machine

/-!
# Reset: the invariants of every loaded state

The statement about reset (70_reset_and_hazards.md section 1): each part of a loaded state meets the invariant that speaks of it.
-/

namespace Sys2Proof.Machine

/-- The display at reset is in step: line 0, dot 0, OAM-scan, both frames blank (R501, R51). -/
theorem Lcd.reset_ok : Lcd.reset.ok :=
  ⟨(Lcd.positionOk_of_on rfl).mpr (by decide), Frame.blank_shaped, Frame.blank_shaped⟩

/-- The control state at reset is in order, whatever the rest holds. -/
theorem State.controlOk_of_reset {s : State} (h : s.ctl = Control.reset) : s.ControlOk := by
  have hrun : s.ctl.runState ≠ .fatal := by rw [h]; decide
  refine (State.controlOk_iff_settled hrun).mpr ?_
  rw [h]
  exact ⟨⟨by simp [Control.reset], by simp [Control.reset], by decide, rfl⟩, by decide⟩

theorem soundReset_ok : soundReset.ok 48 := by decide

/-- The mapper that a header declares begins with no zero in a register whose write turns zero into one (R27, R80). -/
theorem DeclaresMapper.bankNonzero {type : Byte} {mapper : Mapper} (h : DeclaresMapper type mapper) : mapper.bankNonzero := by
  cases h with
  | romOnly => trivial
  | mbc1 => exact (by decide : (1 : BitVec 5) ≠ 0)
  | mbc3 => exact (by decide : (1 : BitVec 7) ≠ 0)
  | mbc5 => trivial

/-- The memories of a loaded state are made from byte lists cut to their sizes. -/
theorem load_memoriesOk {image cartRam : List Byte} {ram : RamInit} {params : Params} {s : State}
    (h : State.load image cartRam ram params = .ok s) : s.bus.memoriesOk := by
  obtain ⟨-, mapper, banks, size, -, -, -, rfl⟩ := load_ok h
  exact ⟨ofBytes_take_ok _ _, ofBytes_take_ok _ _, ofBytes_take_ok _ _, ofBytes_take_ok _ _, soundReset_ok,
    Memory.ofBytes_ok _, ofBytes_take_ok _ _⟩

/-- Settles O59: the registers of a loaded state are those of reset, its memories fit, its mapper is a declared one. -/
theorem resetMeetsTheInvariants : Obligations.ResetMeetsTheInvariants := by
  refine ⟨fun image cartRam ram params s h => ⟨load_memoriesOk h, ?_⟩, reset_memories_inForm, Lcd.reset_ok,
    State.controlOk_of_reset rfl, trivial⟩
  obtain ⟨-, mapper, banks, size, ht, -, -, rfl⟩ := load_ok h
  exact ⟨Lcd.reset_ok, State.controlOk_of_reset rfl, (declaresMapper_of_mapperOfType ht).bankNonzero⟩

end Sys2Proof.Machine
